-- ==== Sys2Proof/Word.lean ====
section
/-!
DEFINITION. The words of the model: a byte of the links, and a count of reference ticks.
Quantities the manual counts (ticks, SP frames, duties, dividers, seconds) are plain `Nat` or `Int`;
only what travels on a link is a bit vector.
-/
namespace Sys2Proof

/-- One byte of the inbound or outbound link (manual, 10.1). -/
abbrev Byte := BitVec 8

/-- A moment or a length of time in reference ticks of 1 µs (manual, 3.1). -/
abbrev Tick := Nat

end Sys2Proof
end

