-- ==== Sys2Proof/Syntax.lean ====
section
/-!
DEFINITION. The commands of the part: one constructor for each row of spec/opcode_table.json.

A request carries its tag and its parameter bytes as they stand on the link (10.8), so that a wrong
length and a value outside its set are part of the command. A pulse or an event whose moment the
part measures carries `dt`, the ticks since the latest measured moment (log 3).
-/
namespace Sys2Proof

/-- The four motor channels (2.1). -/
inductive Channel where
  | drum | capstan | reel | loading
  deriving DecidableEq, Repr

/-- The two servo loops (2.5). -/
inductive Loop where
  | drum | capstan
  deriving DecidableEq, Repr

/-- The two reels, each with its own sensor (3.6). -/
inductive Reel where
  | supply | takeUp
  deriving DecidableEq, Repr

/-- The two edges of a CTL pulse (R75). -/
inductive Edge where
  | rising | falling
  deriving DecidableEq, Repr

/-- The four levels of the mechanism, C0 < C1 < C2 < C3 (1.1). -/
inductive Level where
  | c0 | c1 | c2 | c3
  deriving DecidableEq, Repr

/-- What the cam switch reads: a level's code, or TRANSIT for any other code (1.1). -/
inductive Cam where
  | code (l : Level)
  | transit
  deriving DecidableEq, Repr

/-- A new settled value of one mechanism sensor (R1): the cam code; the cassette switch and the
record-tab switch, present or absent; the dew, BOT and EOT sensors, active or inactive. -/
inductive SensorReading where
  | cam (c : Cam)
  | cassette (present : Bool)
  | tab (present : Bool)
  | dew (active : Bool)
  | bot (active : Bool)
  | eot (active : Bool)
  deriving DecidableEq, Repr

/-- The level of a pin of a general line (R162). -/
inductive PinLevel where
  | high | low
  deriving DecidableEq, Repr

/-- The faults of R171 that discard an inbound packet as its byte is taken. -/
inductive PacketFault where
  | badClass | badLength | noStopBit | badCheck | shortRequest
  deriving DecidableEq, Repr

/-- Every input that a start, a reset or a LINE_ASSIGN reads afresh (R1, R32, R164, R192), as it reads at that
moment: the mechanism's switches and sensors, the eight line pins L0 to L7, the motor supply in
0.1 V, and the backup-good input. -/
structure Pins where
  cam : Cam
  cassette : Bool
  tab : Bool
  dew : Bool
  bot : Bool
  eot : Bool
  lines : List PinLevel
  supply : Byte
  backupGood : Bool
  deriving DecidableEq, Repr

/-- The parameter bytes of a LINE_ASSIGN, with the level at which the pin of its line reads as the request
is taken (R164, R166). -/
structure AssignParams where
  bytes : List Byte
  pin : PinLevel
  deriving DecidableEq, Repr

/-- A byte that the inbound receiver takes, with every input as it reads at that moment: the byte may
complete a LINE_ASSIGN or a RESET, which read them (R164, R185). -/
structure LinkByte where
  value : Byte
  pins : Pins
  deriving DecidableEq, Repr

/-- One command for each row of spec/opcode_table.json, in the table's order. -/
inductive Instr where
  /-- R1. A sensor or the cam switch has held a new value for 10 ms. -/
  | sensorSettled (r : SensorReading)
  /-- R2. The move timer of 4.0 s runs out. -/
  | moveTimeout
  /-- R23. The HALTED timer of 1 s runs out. -/
  | haltedTimeout
  /-- R24. The retry decay timer of 60 s runs out. -/
  | retryDecayExpiry
  /-- R13. The lock timer of 3 s of the lock wait runs out. -/
  | lockWaitTimeout
  /-- R14. The lock timer of 3 s in RECORD runs out. -/
  | recordLockTimeout
  /-- R19. The stall timer runs out. -/
  | reelStall
  /-- R20. The idle timer of 300 s runs out. -/
  | idleTimeout
  /-- R21. The pause timer of 300 s runs out. -/
  | pauseTimeout
  /-- R30, R32. A PWM period starts; `v` is the supply sample taken in it, in 0.1 V. -/
  | pwmPeriodStart (v : Byte)
  /-- R34. The current-limit comparator of a channel becomes active. -/
  | overcurrentTrip (dt : Tick) (c : Channel)
  /-- R35. The 20 ms of a channel's recovery expire. -/
  | recoveryEnd (c : Channel)
  /-- R39. A pulse of the video frame pulse input. -/
  | videoFramePulse (dt : Tick)
  /-- R39. The internal generator gives its pulse, at the moment it is due. -/
  | internalFramePulse
  /-- R43. A drum PG pulse. -/
  | drumPgPulse (dt : Tick)
  /-- R59. A capstan FG pulse. -/
  | capstanFgPulse (dt : Tick)
  /-- R40. No measurement pulse of a loop has come within 4 target periods. -/
  | missingPulseMeasurement (l : Loop)
  /-- R75. An edge of a CTL pulse read from the tape. -/
  | ctlPulse (dt : Tick) (e : Edge)
  /-- R47. The CTL watchdog of 1 s runs out. -/
  | ctlWatchdogExpiry
  /-- R52. A pulse of a reel sensor. -/
  | reelPulse (dt : Tick) (r : Reel)
  /-- R90. The 180 µs transfer of a word ends. -/
  | wordTransferEnd
  /-- R92. The settling timer of 80 ms runs out. -/
  | settlingExpiry
  /-- R97. The AFC timer of 100 ms runs out; the AFC window input as it reads. -/
  | afcTimerExpiry (low high : Bool)
  /-- R98. SYNC_PRESENT is sampled. -/
  | syncSample (present : Bool)
  /-- R99. The AFC window is read in fine stepping. -/
  | fineStepRead (low high : Bool)
  /-- R102. The dwell of 2 s runs out. -/
  | dwellExpiry
  /-- R109. A received packet of class DATA_LINE, by its payload. -/
  | dataLinePacket (payload : List Byte)
  /-- R120. The loss timer of 10 s runs out. -/
  | lossTimerExpiry
  /-- R127. The prescaler completes a second. -/
  | secondPasses
  /-- R153. The passing second at which the hold count reaches 0. -/
  | holdCountExpiry
  /-- R149. The passing second at which the start count reaches 0. -/
  | startCountExpiry
  /-- R164. The pin of a line has held a new level for 10 ms. -/
  | lineInputSettled (line : Fin 8) (level : PinLevel)
  /-- R6 to R8. -/
  | deckRequest (tag : Byte) (params : List Byte)
  /-- R77. -/
  | cueSeek (tag : Byte) (params : List Byte)
  /-- R74. -/
  | cueMark (tag : Byte) (params : List Byte)
  /-- R64. -/
  | counterZero (tag : Byte) (params : List Byte)
  /-- R69. -/
  | tapeQuery (tag : Byte) (params : List Byte)
  /-- R87. -/
  | directoryRead (tag : Byte) (params : List Byte)
  /-- R50. -/
  | cassetteEntryWrite (tag : Byte) (params : List Byte)
  /-- R51. -/
  | cassetteEntryRead (tag : Byte) (params : List Byte)
  /-- R93. -/
  | presetWrite (tag : Byte) (params : List Byte)
  /-- R94. -/
  | presetRead (tag : Byte) (params : List Byte)
  /-- R95, R96. -/
  | tunePreset (tag : Byte) (params : List Byte)
  /-- R95, R96. -/
  | tuneFrequency (tag : Byte) (params : List Byte)
  /-- R95, R96. -/
  | tuneStep (tag : Byte) (params : List Byte)
  /-- R98. -/
  | search (tag : Byte) (params : List Byte)
  /-- R101. -/
  | install (tag : Byte) (params : List Byte)
  /-- R96. -/
  | fineTune (tag : Byte) (params : List Byte)
  /-- R89. -/
  | bandLimitsWrite (tag : Byte) (params : List Byte)
  /-- R105. -/
  | sourceSelect (tag : Byte) (params : List Byte)
  /-- R106. -/
  | tunerQuery (tag : Byte) (params : List Byte)
  /-- R112. -/
  | filterWrite (tag : Byte) (params : List Byte)
  /-- R113. -/
  | filterRead (tag : Byte) (params : List Byte)
  /-- R125. -/
  | labelQuery (tag : Byte) (params : List Byte)
  /-- R130. -/
  | clockSet (tag : Byte) (params : List Byte)
  /-- R134. -/
  | clockRead (tag : Byte) (params : List Byte)
  /-- R137. -/
  | recordWrite (tag : Byte) (params : List Byte)
  /-- R138. -/
  | recordRead (tag : Byte) (params : List Byte)
  /-- R138. -/
  | recordClear (tag : Byte) (params : List Byte)
  /-- R139. -/
  | timerEngage (tag : Byte) (params : List Byte)
  /-- R140. -/
  | timerRelease (tag : Byte) (params : List Byte)
  /-- R166; the parameters with the reading of the line's pin (R164). -/
  | lineAssign (tag : Byte) (params : AssignParams)
  /-- R167. -/
  | indicatorSet (tag : Byte) (params : List Byte)
  /-- R168. -/
  | patternStage (tag : Byte) (params : List Byte)
  /-- R169. -/
  | lineQuery (tag : Byte) (params : List Byte)
  /-- R181. -/
  | status (tag : Byte) (params : List Byte)
  /-- R182. -/
  | parameterSet (tag : Byte) (params : List Byte)
  /-- R184. -/
  | parameterRead (tag : Byte) (params : List Byte)
  /-- R185. The request RESET with scope DECK; the inputs as the reset reads them. -/
  | resetDeck (tag : Byte) (pins : Pins)
  /-- R185. The request RESET with scope ALL; the inputs as the reset reads them. -/
  | resetAll (tag : Byte) (pins : Pins)
  /-- R173. A request whose name byte is none of 10.3. -/
  | unknownRequest (name : Byte) (tag : Byte) (params : List Byte)
  /-- R171. A byte that discards the packet being received. -/
  | packetDiscard (f : PacketFault)
  /-- R171. The gap timer of 1 ms runs out. -/
  | gapTimerExpiry
  /-- R176. The packet in transmission has been sent. -/
  | transmissionEnd
  /-- R176. The hold input of the outbound link becomes active or inactive. -/
  | holdInputChange (active : Bool)
  /-- R187. The mains-fail input becomes asserted. -/
  | mainsFailAssert
  /-- R192. The mains-fail input becomes deasserted. -/
  | mainsFailDeassert
  /-- R192. The return timer of 1 s runs out; the inputs as the start reads them. -/
  | returnTimerExpiry (pins : Pins)
  /-- R171. The inbound receiver takes one byte with its stop bit. -/
  | inboundByte (b : LinkByte)
  deriving DecidableEq, Repr

end Sys2Proof
end

