-- ==== Sys2Proof/Decode.lean ====
section
/-!
DEFINITION. The commands that words spell. The opcode table gives none of its rows any bits: a command
of this part is a pin, a timer, a pulse or a packet on a serial link, and the packets are read by the
receiver of Machine/Link.lean (R171, R173). No word therefore spells a command.
-/
namespace Sys2Proof

/-- The command that a word of `nbits` bits spells by the opcode table: none, as no row has bits. -/
def decodeTableWord (nbits w : Nat) : Option Instr :=
  let _ := nbits
  let _ := w
  none

end Sys2Proof
end

