-- ==== Sys2Proof/Machine/Types.lean ====
section
/-!
DEFINITION. The vocabulary of the state: the manual's named values, one inductive for each set of
names, and the record each block owns, one structure for each block.
Absent values are `none` (manual, 4.6). Lists of a fixed length (presets, timer slots, filter
entries, cassette-table entries, lines) are held in the order of their numbers.
-/
namespace Sys2Proof.Machine

/-! ### Names used by several blocks -/

/-- The recording speeds, of speed factor k = 1, 2, 3 (3.3). UNKNOWN is `none` of `Option Speed`. -/
inductive Speed where
  | sp | lp | ep
  deriving DecidableEq, Repr

/-- The field systems (3.2). -/
inductive FieldSystem where
  | f50 | f60
  deriving DecidableEq, Repr

/-- Who directs the transport or the tuner (R9, R104). -/
inductive Owner where
  | user | timer
  deriving DecidableEq, Repr

/-- What a record or a recording takes its picture from: a preset 1..60, or EXTERNAL. -/
inductive Source where
  | preset (p : Nat)
  | external
  deriving DecidableEq, Repr

/-- A programme label: day, month, hour and minute (5). The label NONE is `none` of `Option Label`. -/
structure Label where
  day : Nat
  month : Nat
  hour : Nat
  minute : Nat
  deriving DecidableEq, Repr

/-- The twenty-two latched condition kinds (R179). -/
inductive Condition where
  | overcurrent (c : Channel)
  | recoveryExpired (c : Channel)
  | reelStall
  | loadingTimeout
  | lockout
  | servoUnlock
  | supplyLow
  | dew
  | powerFail
  | linkError
  | requestOverrun
  | directoryFull
  | afcLimit
  | tapeEndNear
  | extRequestRefused
  | clockLost
  deriving DecidableEq, Repr

/-- The seven report kinds, in the order of R178. -/
inductive ReportKind where
  | transport | timer | tape | tuner | clock | condition | line
  deriving DecidableEq, Repr

/-- The refusal reasons, in the order of R173. -/
inductive Reason where
  | unknownRequest | badLength | badParameter | noCassette | isProtected | dew | timerEngaged
  | owned | notAllowed | atTapeEnd | lockedOut | motorLatched | conflict
  deriving DecidableEq, Repr

/-! ### Transport Controller -/

/-- The twenty transport states (R3). -/
inductive TState where
  | empty | accepting | ejecting | unthreadedStop | threading | unthreading | windFwd | windRev
  | threadedStop | recordPause | engaging | disengaging | play | still | record | searchFwd
  | searchRev | halted | lockedOut | powerDown
  deriving DecidableEq, Repr

/-- The eleven targets (R4), in the order of their codes (10.8). -/
inductive Target where
  | eject | unthread | windFwd | windRev | stop | recordPause | play | still | record | searchFwd
  | searchRev
  deriving DecidableEq, Repr

/-- A target as taken, with the destination it was resolved to (R4). -/
structure Goal where
  target : Target
  dest : TState
  deriving DecidableEq, Repr

/-- The settled values of the mechanism sensors (R1). -/
structure Sensors where
  cam : Cam
  cassette : Bool
  tab : Bool
  dew : Bool
  bot : Bool
  eot : Bool
  deriving DecidableEq, Repr

/-- The eject attempt of LOCKED_OUT (R26). -/
inductive EjectAttempt where
  | notMade | running | made
  deriving DecidableEq, Repr

/-- Where a loading retry stands (R24): none; waiting in HALTED; the return move; the repeated move. -/
inductive RetryPhase where
  | none | pending | returning | repeating
  deriving DecidableEq, Repr

/-- The Transport Controller's state (chapter 1). Each timer holds the moment it runs out, or `none`
while it is stopped. -/
structure Tc where
  state : TState
  goal : Option Goal
  sensors : Sensors
  retryCount : Nat
  /-- The failed move of R24, by its transient state, which gives its from-code and to-code (R3). -/
  failedMove : Option TState
  retry : RetryPhase
  /-- The running move is the start-up move of R27. -/
  startUp : Bool
  /-- The cam move that was running at the entry to HALTED (R23). -/
  interrupted : Option TState
  eject : EjectAttempt
  /-- The to-code of the eject attempt's running move; `none` while it runs from TRANSIT (R26). -/
  ejectTo : Option Level
  lockWait : Bool
  openRec : Bool
  recSpeed : Speed
  /-- The speed of the request for RECORD in force, kept back by the open recording (R12, R195). -/
  heldSpeed : Option Speed
  userSpeed : Speed
  gate : Bool
  moveTimer : Option Tick
  lockTimer : Option Tick
  recordLockTimer : Option Tick
  idleTimer : Option Tick
  pauseTimer : Option Tick
  stallTimer : Option Tick
  haltedTimer : Option Tick
  decayTimer : Option Tick
  deriving DecidableEq, Repr

/-! ### Motor Drive Unit -/

/-- The modes a channel may be asked for (2.1). -/
inductive Mode where
  | off | run | fwd | rev | hold | brake | moveIn | moveOut
  deriving DecidableEq, Repr

/-- A mode with a duty: a staged request, or an applied output (2.1). -/
structure Drive where
  mode : Mode
  duty : Nat
  deriving DecidableEq, Repr

/-- The channel states (2.1). -/
inductive ChannelState where
  | off | driving | recovering | latchedOff
  deriving DecidableEq, Repr

/-- What each channel holds (2.1). `trips` are the times of the recent trips, oldest first. -/
structure Motor where
  staged : Drive
  applied : Drive
  state : ChannelState
  lastDir : Option Mode
  offCount : Nat
  recoveries : Nat
  trips : List Tick
  recoveryTimer : Option Tick
  deriving DecidableEq, Repr

/-- The Motor Drive Unit's state (2.1). -/
structure Mdu where
  drum : Motor
  capstan : Motor
  reel : Motor
  loading : Motor
  /-- The capstan's direction output: true while it shows reverse. -/
  capReverse : Bool
  /-- The latest supply reading V, in 0.1 V. -/
  supply : Nat
  /-- The PWM period counter (log 28). -/
  periodCounter : Nat
  /-- The moment at which the present PWM period began. -/
  periodStart : Tick
  deriving DecidableEq, Repr

/-! ### Servo Unit -/

/-- The drum's two references (R38). -/
inductive DrumRef where
  | internal | video
  deriving DecidableEq, Repr

/-- The drum loop's target (R38). -/
inductive DrumTarget where
  | off
  | run (r : DrumRef)
  deriving DecidableEq, Repr

/-- The capstan loop's target (R38): a direction, a speed factor k and a search multiple m. -/
inductive CapTarget where
  | off
  | hold
  | run (reverse : Bool) (k m : Nat)
  deriving DecidableEq, Repr

/-- A loop's lock state (2.5). -/
inductive Lock where
  | unlocked | speedLock | phaseLock
  deriving DecidableEq, Repr

/-- What each loop holds beside its targets (2.5). -/
structure ServoLoop where
  integrator : Int
  lock : Lock
  inBand : Nat
  outBand : Nat
  phaseIn : Nat
  phaseOut : Nat
  lastPulse : Option Tick
  /-- The moment the present run of the loop began (R40). -/
  runStart : Tick
  phaseTerm : Option Int
  deriving DecidableEq, Repr

/-- Play speed identification (R46, R47): not running; running, with the latest CTL pulse, the
periods held and their sum; complete; stopped on a blank tape. -/
inductive Ident where
  | idle
  | running (last : Option Tick) (periods sum : Nat)
  | complete
  | blank
  deriving DecidableEq, Repr

/-- The Servo Unit's state (2.5). -/
structure Svu where
  drumTarget : DrumTarget
  drumStaged : Option DrumTarget
  capTarget : CapTarget
  capStaged : Option CapTarget
  drum : ServoLoop
  cap : ServoLoop
  /-- The moment of the most recent reference frame pulse (R43). -/
  lastRef : Tick
  /-- The internal generator waits 1.5 frame periods for a video frame pulse (R39). -/
  refWait : Bool
  /-- The frame period the internal generator is running through (R183). -/
  genPeriod : Nat
  ident : Ident
  watchdog : Option Tick
  deriving DecidableEq, Repr

/-! ### Tape Accounting Unit -/

/-- The record tab as read (3.1). -/
inductive TabState where
  | yes | no | unread
  deriving DecidableEq, Repr

/-- The cassette class (3.1). -/
inductive CassClass where
  | unknown
  | unclassified
  | index (i : Nat)
  deriving DecidableEq, Repr

/-- The position quality (3.1). -/
inductive PosQuality where
  | none | estimated | exact
  deriving DecidableEq, Repr

/-- The cassette record (3.1). -/
structure Cassette where
  tab : TabState
  ws : Option Nat
  wt : Option Nat
  /-- The K samples, oldest first. -/
  samples : List Nat
  k : Option Nat
  cls : CassClass
  position : Option Nat
  quality : PosQuality
  counter : Int
  counterValid : Bool
  speed : Option Speed
  deriving DecidableEq, Repr

/-- A revolution measurement (3.1). -/
structure RevMeas where
  measuring : Bool
  pulses : Nat
  fg : Nat
  began : Tick
  deriving DecidableEq, Repr

/-- The approach zone (R67). -/
inductive Zone where
  | none | inside | outside
  deriving DecidableEq, Repr

/-- A valid entry of the cassette table (3.2). An invalid entry is `none`. -/
structure CassEntry where
  name : List Byte
  field : FieldSystem
  kNom : Nat
  tol : Nat
  hub : Nat
  length : Nat
  deriving DecidableEq, Repr

/-- The latest rising edge of a CTL pulse (4.2), with the position and the travel noted at it. -/
structure CtlEdge where
  time : Tick
  high : Option Nat
  position : Option Nat
  travel : Int
  deriving DecidableEq, Repr

/-- One classified pulse of the window (4.2). -/
structure WindowEntry where
  long : Bool
  position : Option Nat
  travel : Int
  deriving DecidableEq, Repr

/-- The seek states (4.3). -/
inductive SeekState where
  | idle | seeking | found | notFound | cancelled
  deriving DecidableEq, Repr

/-- The cue seek (4.3). -/
structure Seek where
  state : SeekState
  /-- The direction: true for SEARCH_REV. -/
  reverse : Bool
  count : Nat
  found : Nat
  travel : Int
  counting : Bool
  foundPos : Option Nat
  deriving DecidableEq, Repr

/-- What made a directory entry (4.4). -/
inductive Origin where
  | timer | manual | found
  deriving DecidableEq, Repr

/-- An entry of the cassette directory (4.4). -/
structure DirEntry where
  start : Nat
  stop : Option Nat
  speed : Option Speed
  origin : Origin
  source : Option Source
  label : Option Label
  slot : Option Nat
  deriving DecidableEq, Repr

/-- The timer details handed by the Programme Timer (4.4). -/
structure Details where
  slot : Option Nat
  source : Option Source
  label : Option Label
  deriving DecidableEq, Repr

/-- The Tape Accounting Unit's state (chapters 3 and 4). -/
structure Tau where
  record : Option Cassette
  supplyRev : RevMeas
  takeUpRev : RevMeas
  ts : Option Nat
  tt : Option Nat
  takeUpFresh : Bool
  outliers : Nat
  fgStep : Int
  warnSpeed : Speed
  endNear : Bool
  zone : Zone
  table : List (Option CassEntry)
  markCount : Nat
  /-- The high time of the CTL pulse being written; `none` while nothing is written (R72). -/
  ctlHigh : Option Nat
  edge : Option CtlEdge
  window : List WindowEntry
  seek : Seek
  directory : List DirEntry
  /-- The start of the entry in progress (starts are distinct, R81). -/
  inProgress : Option Nat
  details : Option Details
  deriving DecidableEq, Repr

/-! ### Tuner Unit -/

/-- The tuner states (R91). -/
inductive TunerState where
  | idle | settling | tuned | searching | installing
  deriving DecidableEq, Repr

/-- The tuned source (5.2). -/
inductive TunedSource where
  | none
  | preset (p : Nat)
  | direct
  | scan
  | candidate
  deriving DecidableEq, Repr

/-- The three tuner bands (R89). -/
inductive Band where
  | low | high | uhf
  deriving DecidableEq, Repr

/-- A STORED preset (5.3). A BLANK preset is `none`. -/
structure Preset where
  n : Nat
  fine : Int
  skip : Bool
  afc : Bool
  timeSource : Bool
  code : Option Nat
  name : Option (List Byte)
  deriving DecidableEq, Repr

/-- The low and the high divider of one band (R89). -/
structure BandLimit where
  lo : Nat
  hi : Nat
  deriving DecidableEq, Repr

/-- The band limit table (R89). -/
structure BandTable where
  low : BandLimit
  high : BandLimit
  uhf : BandLimit
  deriving DecidableEq, Repr

/-- The search result (5.6). -/
inductive SearchResult where
  | none | running | found | notFound | cancelled
  deriving DecidableEq, Repr

/-- The install result (5.7). -/
inductive InstallResult where
  | none | running | ended | cancelled
  deriving DecidableEq, Repr

/-- The phase of a scan (5.6). -/
inductive ScanPhase where
  | idle | settling | checking | fineStepping
  deriving DecidableEq, Repr

/-- The scan state of a search or an install (5.6). The present scan divider is the base divider. -/
structure Scan where
  up : Bool
  start : Int
  wrapped : Bool
  phase : ScanPhase
  detections : Nat
  steps : Nat
  deriving DecidableEq, Repr

/-- The tuning held at the start of a search or install (R98), with its base divider and fine
offset. -/
inductive HeldTuning where
  | idle
  | preset (p : Nat) (base fine : Int)
  | direct (base fine : Int)
  deriving DecidableEq, Repr

/-- A word of the synthesizer output (R90). -/
structure SynthWord where
  band : Band
  divider : Int
  deriving DecidableEq, Repr

/-- The Tuner Unit's state (chapter 5). -/
structure Tnu where
  presets : List (Option Preset)
  limits : BandTable
  state : TunerState
  source : TunedSource
  base : Option Int
  fine : Int
  band : Option Band
  afc : Int
  /-- The latest AFC reading asked to pass a bound (R97). -/
  afcAtLimit : Bool
  owner : Owner
  searchResult : SearchResult
  /-- The direction of the latest search: true for UP (R106, R107). -/
  searchUp : Bool
  scan : Scan
  held : HeldTuning
  foundDivider : Option Int
  installResult : InstallResult
  installFirst : Nat
  installNext : Nat
  installStored : Nat
  installCodes : List Nat
  candidate : Option Preset
  /-- The record source: true for EXTERNAL (R105). -/
  external : Bool
  lastTuned : Option Nat
  word : Option SynthWord
  wordPending : Bool
  /-- The band of the word last begun; `none` in IDLE (R90). -/
  bandOut : Option Band
  settleTimer : Option Tick
  wordTimer : Option Tick
  afcTimer : Option Tick
  scanTimer : Option Tick
  dwellTimer : Option Tick
  deriving DecidableEq, Repr

/-! ### Data Line Processor -/

/-- The slicer's grades (6.1). -/
inductive LineQuality where
  | good | corrected | bad
  deriving DecidableEq, Repr

/-- The services of a data line (6.1). -/
inductive Service where
  | time | label | name | other
  deriving DecidableEq, Repr

/-- The label statuses (6.1). -/
inductive LabelStatus where
  | soon | running | brk
  deriving DecidableEq, Repr

/-- The actions of a filter entry (6.2). -/
inductive FilterAction where
  | forwardDisplay | forwardSystem | drop
  deriving DecidableEq, Repr

/-- A valid entry of the filter table (6.2). An invalid entry is `none`. -/
structure FilterEntry where
  first : Nat
  last : Nat
  time : Bool
  label : Bool
  name : Bool
  other : Bool
  minimum : LineQuality
  action : FilterAction
  deriving DecidableEq, Repr

/-- The live label tracker's state (6.5), with the tracked code, the label value and the status. -/
inductive Tracker where
  | noLabel
  | live (code : Nat) (value : Option Label) (status : LabelStatus)
  | lost (code : Nat) (value : Option Label) (status : LabelStatus)
  deriving DecidableEq, Repr

/-- The tracker's proposal (6.5). -/
structure Proposal where
  code : Nat
  value : Option Label
  status : LabelStatus
  deriving DecidableEq, Repr

/-- A time candidate (6.6): a local calendar time and its difference from the clock. -/
structure TimeCandidate where
  time : Nat
  diff : Int
  deriving DecidableEq, Repr

/-- The Data Line Processor's state (chapter 6). -/
structure Dlp where
  filter : List (Option FilterEntry)
  dropped : Nat
  learnCode : Option Nat
  learnCount : Nat
  tracker : Tracker
  proposal : Option Proposal
  lossTimer : Option Tick
  candidate : Option TimeCandidate
  deriving DecidableEq, Repr

/-! ### Clock Unit -/

/-- A date and a time of day to the second (chapter 7). -/
structure DateTime where
  day : Nat
  month : Nat
  year : Nat
  hour : Nat
  minute : Nat
  second : Nat
  deriving DecidableEq, Repr

/-- The clock states (R129). -/
inductive ClockState where
  | unset | set | broadcast
  deriving DecidableEq, Repr

/-- The causes of a jump event (R133). -/
inductive JumpCause where
  | user | broadcast | wrap
  deriving DecidableEq, Repr

/-- A jump event (R133). -/
structure Jump where
  cause : JumpCause
  old : DateTime
  new : DateTime
  deriving DecidableEq, Repr

/-- The Clock Unit's state (chapter 7). -/
structure Cku where
  now : DateTime
  prescaler : Nat
  state : ClockState
  holdOff : Nat
  lastJump : Option Jump
  deriving DecidableEq, Repr

/-! ### Programme Timer -/

/-- The states of a timer record (8.1). -/
inductive RecState where
  | empty | armed | deferred | watching | starting | recording | paused | ended
  deriving DecidableEq, Repr

/-- How a record repeats (8.1). -/
inductive RepeatKind where
  | once | daily | weekdays | weekly
  deriving DecidableEq, Repr

/-- The speed asked for (8.1). -/
inductive SpeedChoice where
  | fixed (s : Speed)
  | auto
  deriving DecidableEq, Repr

/-- The result codes, in the order of 8.1. -/
inductive ResultCode where
  | complete | completeLimit | shortenedTapeEnd | shortenedPower | endedByRelease | endedByReset
  | missedNotEngaged | missedNoCassette | missedProtected | missedTapeEnd | missedConflict
  | missedLabel | missedPower | missedClock | failedMechanism | failedServo | noPreset
  deriving DecidableEq, Repr

/-- The phase of a record in STARTING (8.1). -/
inductive Phase where
  | clock | hold | go
  deriving DecidableEq, Repr

/-- The stop mode of a record in RECORDING or PAUSED (8.1). -/
inductive StopMode where
  | scheduled | label | shifted
  deriving DecidableEq, Repr

/-- The retry flag (8.1). -/
inductive RetryFlag where
  | none | waiting | made
  deriving DecidableEq, Repr

/-- The flags of a record (8.1). -/
structure RecFlags where
  fallback : Bool
  willNotFit : Bool
  unplanned : Bool
  unindexed : Bool
  deriving DecidableEq, Repr

/-- A timer record with its working state (8.1). Moments are calendar times, in seconds from
1-1-2000 0:00:00 (10.8). -/
structure TimerRecord where
  state : RecState
  labelControl : Bool
  source : Source
  start : Nat
  stopHour : Nat
  stopMinute : Nat
  repeats : RepeatKind
  speed : SpeedChoice
  label : Option Label
  lastResult : Option ResultCode
  actualStart : Option Nat
  actualStop : Option Nat
  chosen : Option Speed
  flags : RecFlags
  phase : Phase
  stopMode : StopMode
  labelSeen : Bool
  watchOpening : Nat
  holdCount : Option Nat
  startCount : Option Nat
  unlockNoted : Bool
  retry : RetryFlag
  /-- A resume from PAUSED has been requested (R155, R157). -/
  resuming : Bool
  /-- A backward jump has called the record back to wait in RECORD_PAUSE for its scheduled start, after
  it had requested RECORD (R159). -/
  recalled : Bool
  /-- The record has fallen back to the clock in this occurrence (R154). -/
  fellBack : Bool
  deferredTrigger : Int
  deriving DecidableEq, Repr

/-- The Programme Timer's state (chapter 8). Slots are numbered 1 to 16. -/
structure Pgt where
  records : List TimerRecord
  engaged : Bool
  claim : Option Nat
  /-- The slot that changed last (R160). -/
  lastChanged : Option Nat
  /-- A timer request refused NOT_ALLOWED, to be made again (R158). -/
  again : Option Target
  deriving DecidableEq, Repr

/-! ### Line Unit -/

/-- The events of the general lines (R163, R165), in the order of their codes (10.8). -/
inductive LineEvent where
  | null | recording | playback | cassetteIn | tapeEndNear | timerEngaged | drumLocked | bandLow
  | bandHigh | bandUhf | tunerMute | videoSourceExt | deckFault | indicatorA | indicatorB
  | indicatorC | indicatorD | framePattern0 | framePattern1 | extRecordRequest | extStopRequest
  | counterZero
  deriving DecidableEq, Repr

/-- The assignment of a line (chapter 9). -/
structure Assignment where
  output : Bool
  event : LineEvent
  openDrain : Bool
  active : PinLevel
  deriving DecidableEq, Repr

/-- The four indicators' bits, A to D (R167). -/
structure Bits4 where
  a : Bool
  b : Bool
  c : Bool
  d : Bool
  deriving DecidableEq, Repr

/-- A frame pattern (R168). -/
structure Pattern where
  p0 : Bool
  p1 : Bool
  deriving DecidableEq, Repr

/-- The Line Unit's state (chapter 9). -/
structure Lnu where
  lines : List Assignment
  /-- The settled level of each line while it is in IN (R164). -/
  settled : List PinLevel
  requests : Bits4
  staged : Pattern
  applied : Pattern
  deriving DecidableEq, Repr

/-! ### Parameters (10.7.1) -/

/-- The overcurrent policies (R34, R35). -/
inductive Policy where
  | latch | recover
  deriving DecidableEq, Repr

/-- The classes of a latched condition (R179). -/
inductive CondClass where
  | warning | fault
  deriving DecidableEq, Repr

/-- A value for each motor channel. -/
structure PerChannel (α : Type) where
  drum : α
  capstan : α
  reel : α
  loading : α
  deriving DecidableEq, Repr

/-- The gains of one loop (R41). -/
structure Gains where
  kp : Nat
  ki : Nat
  kph : Nat
  base : Nat
  deriving DecidableEq, Repr

/-- The report mask: one flag for each kind (R178). -/
structure ReportMask where
  transport : Bool
  timer : Bool
  tape : Bool
  tuner : Bool
  clock : Bool
  condition : Bool
  line : Bool
  deriving DecidableEq, Repr

/-- The parameter set (10.7.1). -/
structure Params where
  fieldSystem : FieldSystem
  preRoll : Nat
  watchLead : Nat
  labelWait : Nat
  overrun : Nat
  endWarn : Nat
  searchMult : Nat
  autoRewind : Bool
  cueOnRecord : Bool
  learnSources : Bool
  broadcastTime : Bool
  windDuty : Nat
  approachDuty : Nat
  ceiling : PerChannel Nat
  policy : PerChannel Policy
  dzReel : Nat
  dzLoading : Nat
  vNom : Nat
  drumGains : Gains
  capGains : Gains
  tracking : Int
  classServoUnlock : CondClass
  classSupplyLow : CondClass
  reportMask : ReportMask
  deriving DecidableEq, Repr

/-! ### What the replies and the reports carry -/

/-- The TRANSPORT report's items (R28). -/
structure TransportItems where
  state : TState
  goal : Option Goal
  owner : Owner
  cam : Cam
  retryCount : Nat
  gate : Bool
  recSpeed : Speed
  cassette : Bool
  tab : Bool
  dew : Bool
  bot : Bool
  eot : Bool
  lockWait : Bool
  deriving DecidableEq, Repr

/-- The TIMER report's items (R160). -/
structure TimerItems where
  engaged : Bool
  holder : Option (Nat × RecState × Phase × Option Speed × StopMode)
  lastChanged : Option (Nat × RecState × Option ResultCode)
  armed : Nat
  deferred : Nat
  tracker : Tracker
  deriving DecidableEq, Repr

/-- The cue seek's items and the number of directory entries (R80). -/
structure SeekItems where
  state : SeekState
  reverse : Bool
  count : Nat
  found : Nat
  foundPos : Option Nat
  entries : Nat
  deriving DecidableEq, Repr

/-- The items of the cassette record in TAPE_QUERY and the TAPE report (R69). -/
structure TapeItems where
  tab : TabState
  ws : Option Nat
  wt : Option Nat
  samples : Nat
  k : Option Nat
  cls : CassClass
  name : Option (List Byte)
  total : Option Nat
  position : Option Nat
  quality : PosQuality
  remaining : Option Nat
  remainingSp : Option Nat
  remainingLp : Option Nat
  remainingEp : Option Nat
  counter : Int
  counterValid : Bool
  counterTime : Int
  speed : Option Speed
  display : Speed
  endNear : Bool
  zone : Zone
  deriving DecidableEq, Repr

/-- The items of TUNER_QUERY and the TUNER report (R106). -/
structure TunerItems where
  state : TunerState
  source : TunedSource
  base : Option Int
  /-- The fine offset of the tuned source; `none` where there is none (5.2). -/
  fine : Option Int
  afc : Int
  effective : Option Int
  frequency : Option Int
  band : Option Band
  owner : Owner
  external : Bool
  lastTuned : Option Nat
  searchResult : SearchResult
  searchUp : Bool
  foundDivider : Option Int
  installResult : InstallResult
  installFirst : Nat
  installNext : Nat
  installStored : Nat
  deriving DecidableEq, Repr

/-- The items of CLOCK_READ and the CLOCK report (R134); `weekday` 0 to 6 is MONDAY to SUNDAY. -/
structure ClockItems where
  now : DateTime
  weekday : Nat
  state : ClockState
  holdOff : Nat
  lastJump : Option Jump
  deriving DecidableEq, Repr

/-- The CONDITION report's items (R179). -/
structure ConditionItems where
  latched : List (Condition × CondClass)
  live : List Channel
  deckFault : Bool
  deriving DecidableEq, Repr

/-- One line in LINE_QUERY and the LINE report (R169). -/
structure LineItem where
  assignment : Assignment
  level : PinLevel
  active : Bool
  deriving DecidableEq, Repr

/-- The items of LINE_QUERY and the LINE report (R169). -/
structure LineItems where
  lines : List LineItem
  requests : Bits4
  computed : Bits4
  active : Bits4
  staged : Pattern
  applied : Pattern
  deriving DecidableEq, Repr

/-- The tuned context (R114). -/
inductive TunedContext where
  | none
  | preset (p : Nat)
  | direct
  | candidate
  deriving DecidableEq, Repr

/-- The items of LABEL_QUERY (R125). -/
structure LabelItems where
  context : TunedContext
  expected : Option Nat
  tracker : Tracker
  proposal : Option Proposal
  learning : Bool
  learnCode : Option Nat
  learnCount : Nat
  candidate : Option TimeCandidate
  deriving DecidableEq, Repr

/-- How the part last started (R186). -/
inductive StartCause where
  | cold | warm | command
  deriving DecidableEq, Repr

/-- One channel in the transport summary of STATUS (R181). -/
structure ChannelSummary where
  state : ChannelState
  duty : Nat
  recoveries : Nat
  deriving DecidableEq, Repr

/-- The items of STATUS (R181). -/
structure StatusItems where
  conditions : ConditionItems
  cause : StartCause
  dropped : Nat
  transport : TState
  dest : Option TState
  owner : Owner
  retryCount : Nat
  supply : Nat
  channels : PerChannel ChannelSummary
  drumLock : Lock
  capLock : Lock
  /-- R181: the speed of the cassette record. -/
  speed : Option Speed
  /-- R48: the speed that the capstan loop is running; none while it has no running target. -/
  running : Option Speed
  engaged : Bool
  holder : Option (Nat × RecState)
  tunerState : TunerState
  tunedSource : TunedSource
  tunerOwner : Owner
  deriving DecidableEq, Repr

/-- The results a reply carries. Where 10.8 lays the results out, they are the bytes of that image
(log 8). -/
inductive Results where
  | none
  | deck (state : TState) (dest : Option TState)
  | tape (t : TapeItems) (s : SeekItems)
  | image (bytes : List Byte)
  | cassetteWritten (total : Option Nat) (wasClass : Bool)
  | cassetteEntry (entry : Option CassEntry) (total : Option Nat) (isClass : Bool)
  | tuning (source : TunedSource) (base frequency : Option Int) (band : Option Band)
  | tuner (t : TunerItems)
  | filter (entry : Option FilterEntry)
  | label (l : LabelItems)
  | clockSet (now : DateTime) (weekday : Nat)
  | clock (c : ClockItems)
  | recordWritten (start : Nat) (trigger deadline : Int)
  | line (a : Assignment) (level : PinLevel)
  | indicators (requests active : Bits4)
  | patterns (staged applied : Pattern)
  | lines (l : LineItems)
  | status (s : StatusItems)
  | parameter (value : Int)
  deriving DecidableEq, Repr

/-- A reply: the tag, the outcome (`reason` absent for DONE), the flag CLAMPED and the results
(R173). -/
structure Reply where
  tag : Byte
  reason : Option Reason
  clamped : Bool
  results : Results
  deriving DecidableEq, Repr

/-- A report: its kind with the snapshot of that area (10.5). -/
inductive Report where
  | transport (t : TransportItems)
  | timer (t : TimerItems)
  | tape (t : Option TapeItems) (s : SeekItems)
  | tuner (t : TunerItems)
  | clock (c : ClockItems)
  | condition (c : ConditionItems)
  | line (l : LineItems)
  deriving DecidableEq, Repr

/-- A packet of the outbound queue (R175): a forwarded copy, of class DATA_DISPLAY or DATA_SYSTEM,
with the inbound payload; a reply; a report. -/
inductive Packet where
  | copy (display : Bool) (payload : List Byte)
  | reply (r : Reply)
  | report (r : Report)
  deriving DecidableEq, Repr

/-! ### Link Unit -/

/-- The receive states (R171). -/
inductive RxPhase where
  | idle | length | payload | check | discard
  deriving DecidableEq, Repr

/-- The inbound receiver: its receive state, the packet being assembled and the gap timer (R171). -/
structure Receiver where
  phase : RxPhase
  cls : Byte
  len : Nat
  payload : List Byte
  gapTimer : Option Tick
  deriving DecidableEq, Repr

/-- The supply states (chapter 11). -/
inductive SupplyState where
  | mains | failed | returning
  deriving DecidableEq, Repr

/-- The Link Unit's state (chapters 10 and 11). -/
structure Lku where
  rx : Receiver
  /-- The outbound queue, oldest first. -/
  queue : List Packet
  /-- The packet in transmission. -/
  tx : Option Packet
  /-- The hold input is active. -/
  hold : Bool
  /-- The latched set, in the order of R179's table. -/
  latched : List Condition
  /-- The channels whose OC_ALERT_x is present (R180). -/
  live : List Channel
  cause : StartCause
  params : Params
  supply : SupplyState
  returnTimer : Option Tick
  /-- The report kinds asked for in the step being taken; empty between steps (log 6). -/
  wanted : List ReportKind
  deriving DecidableEq, Repr

end Sys2Proof.Machine
end

