-- ==== Sys2Proof/Machine/Arith.lean ====
section
/-!
DEFINITION. The arithmetic of the manual (4.4): rounding, saturating and clamping on whole numbers;
numbers read from and written to the bytes of a link (10.8).
-/
namespace Sys2Proof.Machine

/-- 3.1: measured periods are 24 bits wide and saturate. -/
def tickMax : Nat := 16777215

/-- A measured length of time, saturating (3.1). -/
def measured (t : Nat) : Nat := min t tickMax

/-- One more, saturating at `bound` (4.4). -/
def satSucc (bound n : Nat) : Nat := if n < bound then n + 1 else bound

/-- An integer set to the nearer end of its range when it lies outside (4.4). -/
def clampInt (lo hi x : Int) : Int := max lo (min hi x)

/-- round(a / b), halves up, for whole numbers (4.4); 0 when b is 0. -/
def roundDiv (a b : Nat) : Nat := (2 * a + b) / (2 * b)

/-- ceil(a / b) (4.4). -/
def ceilDiv (a b : Nat) : Nat := (a + b - 1) / b

/-- |a − b| of two counts. -/
def distance (a b : Nat) : Nat := (a - b) + (b - a)

/-- R43: a phase difference reduced modulo the period to −period/2 .. period/2. -/
def phaseError (d period : Int) : Int :=
  let r := d % period
  if period / 2 < r then r - period else r

/-! ### Bytes (10.8) -/

/-- The sum of a packet's bytes, modulo 256. -/
def byteSum (bs : List Byte) : Byte := bs.foldl (· + ·) 0

/-- A number sent most significant byte first. -/
def ofBytes (bs : List Byte) : Nat := bs.foldl (fun n b => n * 256 + b.toNat) 0

/-- The byte at place `i` of a list of parameters, 0 beyond its end. -/
def byteAt (bs : List Byte) (i : Nat) : Nat := (bs.getD i 0).toNat

/-- The `n` bytes from place `i` as one number. -/
def numberAt (bs : List Byte) (i n : Nat) : Nat := ofBytes ((bs.drop i).take n)

/-- The byte at place `i`, in two's complement. -/
def signedAt (bs : List Byte) (i : Nat) : Int := (bs.getD i 0).toInt

/-- The two bytes from place `i`, in two's complement. -/
def signed16At (bs : List Byte) (i : Nat) : Int := (BitVec.ofNat 16 (numberAt bs i 2)).toInt

/-- A flag bit of the byte at place `i`. -/
def bitAt (bs : List Byte) (i bit : Nat) : Bool := (bs.getD i 0).getLsbD bit

/-- A number as one byte. -/
def byte (n : Nat) : Byte := BitVec.ofNat 8 n

/-- A signed number as one byte, in two's complement. -/
def signedByte (n : Int) : Byte := BitVec.ofInt 8 n

/-- A number as two bytes, most significant first. -/
def bytes2 (n : Nat) : List Byte := [byte (n / 256), byte n]

/-- A number as four bytes, most significant first. -/
def bytes4 (n : Nat) : List Byte :=
  [byte (n / 16777216), byte (n / 65536), byte (n / 256), byte n]

/-- Flags as one byte, the first flag as bit 0. -/
def flagsByte (flags : List Bool) : Byte :=
  byte (flags.foldr (fun b n => (if b then 1 else 0) + 2 * n) 0)

/-- A yes-or-no value of a parameter byte: 0 no, 1 yes, another code outside the set (10.8). -/
def boolCode (n : Nat) : Option Bool :=
  match n with
  | 0 => some false
  | 1 => some true
  | _ => none

end Sys2Proof.Machine
end

