-- ==== Sys2Proof/Machine/Defaults.lean ====
section
/-!
DEFINITION. The start values each chapter gives: what every block holds after a cold start, and the
parts of it that a reset or a warm start takes too.
-/
namespace Sys2Proof.Machine

/-! ### Transport and motors -/

/-- R27: the values of TC after every start and reset, before the start-up procedure. -/
def Tc.start (sn : Sensors) : Tc where
  state := .empty
  goal := some ⟨.stop, .unthreadedStop⟩
  sensors := sn
  retryCount := 0
  failedMove := none
  retry := .none
  startUp := false
  interrupted := none
  eject := .notMade
  ejectTo := none
  lockWait := false
  openRec := false
  recSpeed := .sp
  heldSpeed := none
  userSpeed := .sp
  gate := false
  moveTimer := none
  lockTimer := none
  recordLockTimer := none
  idleTimer := none
  pauseTimer := none
  stallTimer := none
  haltedTimer := none
  decayTimer := none

/-- R37: a channel after a cold or warm start; `m` is OFF, or BRAKE for the reel. -/
def Motor.start (m : Mode) : Motor where
  staged := ⟨m, 0⟩
  applied := ⟨m, 0⟩
  state := .off
  lastDir := none
  offCount := 0
  recoveries := 0
  trips := []
  recoveryTimer := none

/-- R37: a channel after a RESET keeps the last driven direction and the off-period count. -/
def Motor.reset (m : Mode) (old : Motor) : Motor :=
  { Motor.start m with lastDir := old.lastDir, offCount := old.offCount }

/-- R37: MDU after a cold or warm start at `now`, with the first supply sample `v` (R32). -/
def Mdu.start (v : Nat) (now : Tick) : Mdu where
  drum := Motor.start .off
  capstan := Motor.start .off
  reel := Motor.start .brake
  loading := Motor.start .off
  capReverse := false
  supply := v
  periodCounter := 0
  periodStart := now

/-- R37: MDU after a RESET. -/
def Mdu.reset (v : Nat) (now : Tick) (old : Mdu) : Mdu :=
  { Mdu.start v now with
    drum := Motor.reset .off old.drum
    capstan := Motor.reset .off old.capstan
    reel := Motor.reset .brake old.reel
    loading := Motor.reset .off old.loading }

/-- R48: a loop after every start and reset. -/
def ServoLoop.start (now : Tick) : ServoLoop where
  integrator := 0
  lock := .unlocked
  inBand := 0
  outBand := 0
  phaseIn := 0
  phaseOut := 0
  lastPulse := none
  runStart := now
  phaseTerm := none

/-- R48: SVU after every start and reset; the generator runs from that moment. -/
def Svu.start (period : Nat) (now : Tick) : Svu where
  drumTarget := .off
  drumStaged := none
  capTarget := .off
  capStaged := none
  drum := ServoLoop.start now
  cap := ServoLoop.start now
  lastRef := now
  refWait := false
  genPeriod := period
  ident := .idle
  watchdog := none

/-! ### Tape accounting -/

/-- R49: a revolution measurement that is not measuring. -/
def RevMeas.idle : RevMeas := ⟨false, 0, 0, 0⟩

/-- R49: the fresh cassette record. -/
def Cassette.fresh : Cassette where
  tab := .unread
  ws := none
  wt := none
  samples := []
  k := none
  cls := .unknown
  position := none
  quality := .none
  counter := 0
  counterValid := true
  speed := none

/-- R80: the cue seek after every start and reset. -/
def Seek.start : Seek := ⟨.idle, false, 1, 0, 0, false, none⟩

/-- R71, R80: TAU after every start and reset, with the cassette table given. -/
def Tau.start (table : List (Option CassEntry)) : Tau where
  record := none
  supplyRev := RevMeas.idle
  takeUpRev := RevMeas.idle
  ts := none
  tt := none
  takeUpFresh := false
  outliers := 0
  fgStep := 0
  warnSpeed := .sp
  endNear := false
  zone := .none
  table := table
  markCount := 0
  ctlHigh := none
  edge := none
  window := []
  seek := Seek.start
  directory := []
  inProgress := none
  details := none

/-! ### Tuner and data lines -/

/-- R89: the default band limit table. -/
def BandTable.default : BandTable := ⟨⟨1456, 3424⟩, ⟨3440, 8144⟩, ⟨8160, 14544⟩⟩

/-- The scan state with nothing running. -/
def Scan.idle : Scan := ⟨true, 0, false, .idle, 0, 0⟩

/-- R107: TNU after a start that leaves the tuner IDLE, with the tables and the last tuned preset
given. -/
def Tnu.start (presets : List (Option Preset)) (limits : BandTable) (last : Option Nat) : Tnu where
  presets := presets
  limits := limits
  state := .idle
  source := .none
  base := none
  fine := 0
  band := none
  afc := 0
  afcAtLimit := false
  owner := .user
  searchResult := .none
  searchUp := true
  scan := Scan.idle
  held := .idle
  foundDivider := none
  installResult := .none
  installFirst := 1
  installNext := 1
  installStored := 0
  installCodes := []
  candidate := none
  external := false
  lastTuned := last
  word := none
  wordPending := false
  bandOut := none
  settleTimer := none
  wordTimer := none
  afcTimer := none
  scanTimer := none
  dwellTimer := none

/-- R126: DLP after every start and reset, with the filter table given. -/
def Dlp.start (filter : List (Option FilterEntry)) : Dlp where
  filter := filter
  dropped := 0
  learnCode := none
  learnCount := 0
  tracker := .noLabel
  proposal := none
  lossTimer := none
  candidate := none

/-! ### Clock, timer and lines -/

/-- R135: 1-1-2000 0:00:00. -/
def DateTime.first : DateTime := ⟨1, 1, 2000, 0, 0, 0⟩

/-- R135: CKU after a cold start and a RESET ALL. -/
def Cku.cold : Cku := ⟨DateTime.first, 0, .unset, 0, none⟩

/-- No flag set. -/
def RecFlags.clear : RecFlags := ⟨false, false, false, false⟩

/-- R138, R161: an EMPTY slot, with every field and its working state cleared. -/
def TimerRecord.blank : TimerRecord where
  state := .empty
  labelControl := false
  source := .external
  start := 0
  stopHour := 0
  stopMinute := 0
  repeats := .once
  speed := .fixed .sp
  label := none
  lastResult := none
  actualStart := none
  actualStop := none
  chosen := none
  flags := RecFlags.clear
  phase := .clock
  stopMode := .scheduled
  labelSeen := false
  watchOpening := 0
  holdCount := none
  startCount := none
  unlockNoted := false
  retry := .none
  resuming := false
  recalled := false
  fellBack := false
  deferredTrigger := 0

/-- R161: PGT after a cold start and a RESET ALL. DESIGN CHOICE (log 45): no slot has changed yet. -/
def Pgt.cold : Pgt := ⟨List.replicate 16 TimerRecord.blank, false, none, none, none⟩

/-- R170: the assignment of every line after a cold start and a RESET ALL. -/
def Assignment.default : Assignment := ⟨false, .null, false, .high⟩

/-- All four bits off. -/
def Bits4.clear : Bits4 := ⟨false, false, false, false⟩

/-- R170: LNU after every start and reset, with the assignments and the pins given. -/
def Lnu.start (lines : List Assignment) (pins : List PinLevel) : Lnu :=
  ⟨lines, pins, Bits4.clear, ⟨false, false⟩, ⟨false, false⟩⟩

/-! ### Link unit -/

/-- 10.7.1: every report kind on. -/
def ReportMask.all : ReportMask := ⟨true, true, true, true, true, true, true⟩

/-- 10.7.1: the default of every parameter. -/
def Params.default : Params where
  fieldSystem := .f60
  preRoll := 30
  watchLead := 5
  labelWait := 120
  overrun := 60
  endWarn := 180
  searchMult := 5
  autoRewind := false
  cueOnRecord := true
  learnSources := true
  broadcastTime := true
  windDuty := 900
  approachDuty := 300
  ceiling := ⟨1000, 1000, 1000, 1000⟩
  policy := ⟨.recover, .recover, .latch, .latch⟩
  dzReel := 2
  dzLoading := 2
  vNom := 120
  drumGains := ⟨8, 2, 4, 400⟩
  capGains := ⟨64, 8, 16, 300⟩
  tracking := 0
  classServoUnlock := .warning
  classSupplyLow := .warning
  reportMask := ReportMask.all

/-- R171: the receiver with no packet being assembled. -/
def Receiver.idle : Receiver := ⟨.idle, 0, 0, [], none⟩

/-! ### The inputs at the machine's reset (log 1) -/

/-- DESIGN CHOICE (log 1): the inputs as the cold start of `State.reset` reads them: no cassette,
the cam at C0, every sensor inactive, every line pin low, the supply at 12.0 V, backup-good
deasserted, which is what makes the start a cold one (R192). -/
def inputsAtReset : Pins where
  cam := .code .c0
  cassette := false
  tab := false
  dew := false
  bot := false
  eot := false
  lines := List.replicate 8 .low
  supply := 120
  backupGood := false

/-- R1: the settled values a start takes from the inputs as they read. -/
def sensorsOf (p : Pins) : Sensors := ⟨p.cam, p.cassette, p.tab, p.dew, p.bot, p.eot⟩

/-- R178: the seven reports that follow the cold start, in their order, as that start leaves the
part. -/
def Report.afterColdStart : List Report :=
  [ .transport
      { state := .empty, goal := some ⟨.stop, .unthreadedStop⟩, owner := .user, cam := .code .c0
        retryCount := 0, gate := false, recSpeed := .sp, cassette := false, tab := false
        dew := false, bot := false, eot := false, lockWait := false },
    .timer
      { engaged := false, holder := none, lastChanged := none, armed := 0, deferred := 0
        tracker := .noLabel },
    .tape none
      { state := .idle, reverse := false, count := 1, found := 0, foundPos := none, entries := 0 },
    .tuner
      { state := .idle, source := .none, base := none, fine := none, afc := 0, effective := none
        frequency := none, band := none, owner := .user, external := false, lastTuned := none
        searchResult := .none, searchUp := true, foundDivider := none, installResult := .none
        installFirst := 1, installNext := 1, installStored := 0 },
    .clock
      { now := DateTime.first, weekday := 5, state := .unset, holdOff := 0, lastJump := none },
    .condition
      { latched := [(.clockLost, .warning)], live := [], deckFault := false },
    .line
      { lines := List.replicate 8 ⟨Assignment.default, .low, false⟩, requests := Bits4.clear
        computed := Bits4.clear, active := Bits4.clear, staged := ⟨false, false⟩
        applied := ⟨false, false⟩ } ]

/-- R186, R178: LKU after the cold start: CLOCK_LOST latched, the parameters at their defaults, the
first report in transmission and the others waiting. -/
def Lku.cold : Lku where
  rx := Receiver.idle
  queue := Report.afterColdStart.tail.map Packet.report
  tx := Report.afterColdStart.head?.map Packet.report
  hold := false
  latched := [.clockLost]
  live := []
  cause := .cold
  params := Params.default
  supply := .mains
  returnTimer := none
  wanted := []

end Sys2Proof.Machine
end

