-- ==== Sys2Proof/Machine/Calendar.lean ====
section
/-!
DEFINITION. The calendar of R128 and the calendar times of 10.8: dates counted in whole days from
1-1-2000, and moments in whole seconds from 1-1-2000 0:00:00.
-/
namespace Sys2Proof.Machine

/-- R128: the calendar runs for 36,525 days, to 31-12-2099. -/
def calendarDays : Nat := 36525

/-- 10.8: the calendar time of 31-12-2099 23:59:59. -/
def calendarMax : Nat := 3155759999

/-- R128: a year divisible by 4 is a leap year; the year counted from 2000. -/
def isLeap (y : Int) : Bool := y % 4 == 0

/-- R128: the length of a month in a year counted from 2000; 0 for no month. -/
def monthLength (y : Int) (m : Nat) : Nat :=
  match m with
  | 1 | 3 | 5 | 7 | 8 | 10 | 12 => 31
  | 4 | 6 | 9 | 11 => 30
  | 2 => if isLeap y then 29 else 28
  | _ => 0

/-- The days before a month, within its year. -/
def daysBeforeMonth (y : Int) (m : Nat) : Nat :=
  ((List.range (m - 1)).map (fun i => monthLength y (i + 1))).foldl (· + ·) 0

/-- The days from 1-1-2000 to the first day of a year counted from 2000 (log 32 for the years
outside the calendar). -/
def daysBeforeYear (y : Int) : Int := 365 * y + (y + 3) / 4

/-- A day and month that form a real date in a year counted from 2000. -/
def isDate (y : Int) (m d : Nat) : Bool := decide (1 ≤ d) && decide (d ≤ monthLength y m)

/-- The day number of a date, the year counted from 2000. -/
def dayNumber (y : Int) (m d : Nat) : Int :=
  daysBeforeYear y + daysBeforeMonth y m + ((d : Int) - 1)

/-- The month and day of a day of the year, counted from 0, by running through the months left. -/
def monthOfDay (y : Int) : List Nat → Nat → Nat × Nat
  | [], d => (12, d + 1)
  | m :: ms, d => if d < monthLength y m then (m, d + 1) else monthOfDay y ms (d - monthLength y m)

/-- The year counted from 2000 of a day number. -/
def yearOfDay (n : Int) : Int :=
  let c := n / 1461
  let r := n % 1461
  4 * c + (if r < 366 then 0 else (r - 1) / 365)

/-- The year (counted from 2000), month and day of a day number. -/
def dateOfDay (n : Int) : Int × Nat × Nat :=
  let y := yearOfDay n
  let md := monthOfDay y (List.range' 1 12) (n - daysBeforeYear y).toNat
  (y, md.1, md.2)

/-- The whole days from 1-1-2000 to a date (R128). -/
def DateTime.days (t : DateTime) : Nat := (dayNumber ((t.year : Int) - 2000) t.month t.day).toNat

/-- The calendar time of a date and time (10.8). -/
def DateTime.seconds (t : DateTime) : Nat :=
  t.days * 86400 + t.hour * 3600 + t.minute * 60 + t.second

/-- The date and time of a calendar time (10.8). -/
def DateTime.ofSeconds (n : Nat) : DateTime :=
  let d := dateOfDay ((n / 86400 : Nat) : Int)
  ⟨d.2.2, d.2.1, (d.1 + 2000).toNat, n % 86400 / 3600, n % 3600 / 60, n % 60⟩

/-- R130: a date and time that the calendar holds. -/
def DateTime.valid (t : DateTime) : Bool :=
  decide (2000 ≤ t.year) && decide (t.year ≤ 2099) && decide (1 ≤ t.month) && decide (t.month ≤ 12)
    && isDate ((t.year : Int) - 2000) t.month t.day && decide (t.hour ≤ 23)
    && decide (t.minute ≤ 59) && decide (t.second ≤ 59)

/-- The last second of the calendar (R128). -/
def DateTime.last : DateTime := ⟨31, 12, 2099, 23, 59, 59⟩

/-- R127, R128: the date and time one second on, carrying into the minute, the hour and the date;
the last second of the calendar wraps to the first. -/
def DateTime.advance (t : DateTime) : DateTime :=
  if t.second < 59 then { t with second := t.second + 1 }
  else if t.minute < 59 then { t with second := 0, minute := t.minute + 1 }
  else if t.hour < 23 then { t with second := 0, minute := 0, hour := t.hour + 1 }
  else if t.day < monthLength ((t.year : Int) - 2000) t.month then
    { t with second := 0, minute := 0, hour := 0, day := t.day + 1 }
  else if t.month < 12 then
    { t with second := 0, minute := 0, hour := 0, day := 1, month := t.month + 1 }
  else if t.year < 2099 then
    { t with second := 0, minute := 0, hour := 0, day := 1, month := 1, year := t.year + 1 }
  else DateTime.first

/-- R128: the weekday of a day number; 0 to 6 stand for MONDAY to SUNDAY. -/
def weekdayOf (day : Nat) : Nat := (day + 5) % 7

/-- R128: the weekday of a date. -/
def DateTime.weekday (t : DateTime) : Nat := weekdayOf t.days

end Sys2Proof.Machine
end

