-- ==== Sys2Proof/Config.lean ====
section
/-!
DEFINITION. The free values: what the manual leaves open while the part goes on.
Each is a constant without a body, applied to what it depends on, so that nothing can be proved of
its value. The assumption log names each one.
-/
namespace Sys2Proof

/-- DESIGN CHOICE (log 9, free value). The speed factor R46 computes as round(F / P) when the mean
period P is 0 ticks, before the clamp of R46; its argument is F. -/
opaque Config.identRatio : Nat → Nat

/-- DESIGN CHOICE (log 10, free value). The wrap square S of R60 when both revolution periods are
0 ticks, so that the ratio has no value; its argument is K. -/
opaque Config.windRatio : Nat → Nat

/-- DESIGN CHOICE (log 11, free value). Which of two equally near years R136 takes for the label
moment: true for the later one; its argument is the scheduled start as a calendar time. -/
opaque Config.labelYearLater : Nat → Bool

/-- DESIGN CHOICE (log 12, free value). The 15 data bits of a synthesizer word whose effective
divider lies outside 0..32,767; its argument is the effective divider. -/
opaque Config.wordBits : Int → BitVec 15

end Sys2Proof
end

