-- ==== Sys2Proof/Machine/State.lean ====
section
/-!
DEFINITION. The state of the part, block by block, with the queue of waiting commands; the reasons a
step can stop; the state right after a cold start.
-/
namespace Sys2Proof.Machine

/-- The state of the part. Each of the ten blocks owns one field (manual, 2.1); the last three
fields are the model's own: the inputs as last read (log 7), the tick count (log 3) and the queue
of waiting commands, first in, first out. -/
structure State where
  tc : Tc
  mdu : Mdu
  svu : Svu
  tau : Tau
  tnu : Tnu
  dlp : Dlp
  cku : Cku
  pgt : Pgt
  lnu : Lnu
  lku : Lku
  pins : Pins
  now : Tick
  pending : List Instr
  deriving DecidableEq, Repr

/-- Why a step can stop with a fault. -/
inductive Fault where
  /-- Raised by `complete` when the hand-overs between the blocks that one command leads to do not
  end within the model's bound (log 5). No rule of the manual leads here. Safe: the step stops and
  nothing can be concluded of a state after it. -/
  | handOversUnfinished
  deriving DecidableEq, Repr

/-- Why a command is refused. -/
inductive Refusal where
  /-- Raised by an arm of `exec` whose command has no meaning yet. Safe: the step stops. -/
  | notModelled (mnemonic : String)
  deriving DecidableEq, Repr

/-- The state right after a cold start that finds no cassette (R27, R37, R48, R71, R107, R126,
R135, R161, R170, R186), with the inputs of log 1 and no command waiting. The start-up procedure has
entered EMPTY, whose demand for the reel channel is off (R3). -/
def State.reset : State where
  tc := Tc.start (sensorsOf inputsAtReset)
  mdu := { Mdu.start 120 0 with reel := { Motor.start .brake with staged := ⟨.off, 0⟩ } }
  svu := Svu.start 33333 0
  tau := Tau.start (List.replicate 8 none)
  tnu := Tnu.start (List.replicate 60 none) BandTable.default none
  dlp := Dlp.start (List.replicate 8 none)
  cku := Cku.cold
  pgt := Pgt.cold
  lnu := Lnu.start (List.replicate 8 Assignment.default) inputsAtReset.lines
  lku := Lku.cold
  pins := inputsAtReset
  now := 0
  pending := []

end Sys2Proof.Machine
end

