-- ==== Sys2Proof/Machine/Tasks.lean ====
section
/-!
DEFINITION. The hand-overs between the blocks. The manual has each block hand its changes to the
others at the moment they are made; a handler therefore answers the state together with the
hand-overs it makes, and `run` carries them out depth first, each before what follows it (log 5).
-/
namespace Sys2Proof.Machine

/-- Who makes a transport request (1.4): a DECK_REQUEST, a general line, a CUE_SEEK with its count,
or the Programme Timer. -/
inductive Requester where
  | deck
  | line
  | seek (count : Nat)
  | timer
  deriving DecidableEq, Repr

/-- A transport request (R6). A target or speed outside its set is `none` (R8, test 4). -/
structure TransportRequest where
  target : Option Target
  speed : Option Speed
  origin : Requester
  deriving DecidableEq, Repr

/-- Why TC sets a target by its own rules (R158): the lock-wait timeout (R13), the lock watch (R14),
the reading of an absent tab (R10), a tape end (R17, R18), a cue seek found (R78), or another rule. -/
inductive OwnCause where
  | lockWait | lockWatch | tab | bot | eot | seekFound | other
  deriving DecidableEq, Repr

/-- One hand-over from a block to another, or one part of a block's own sequence that what it
hands over must precede. -/
inductive Task where
  /-- A block raises a condition kind (R179); `tripped` when its own channel's trip causes it. -/
  | raise (k : Condition) (tripped : Bool)
  /-- LKU hands a FAULT-class raise to TC (R23, R24, R26). -/
  | tcFault (k : Condition) (tripped : Bool)
  /-- TC takes a request that has passed R8 (R6, R7). -/
  | tcTake (q : TransportRequest)
  /-- TC sets a target by its own rules and acts on it. -/
  | tcGoal (t : Target) (cause : OwnCause)
  /-- A running cam move arrives when the settled cam code equals its to-code (R2). -/
  | tcArrive
  /-- BOT or EOT is seen on the entry to a state (R17, R18). -/
  | tcEnds
  /-- SVU hands TC a change of a lock state (R13, R14, R48). -/
  | tcLocks
  /-- The lock wait has failed with SERVO_UNLOCK of class WARNING (R13). -/
  | tcLockWaitOver
  /-- The lock watch has failed with SERVO_UNLOCK of class WARNING (R14). -/
  | tcLockWatchOver
  /-- MDU hands TC the release of the channels (R24). -/
  | tcReleased
  /-- TC closes an open recording (R195). -/
  | tcClose
  /-- PGT hands TNU a grant of the claim, or its release (R104). -/
  | tnuGrant (src : Source)
  | tnuRelease
  /-- DLP hands PGT a label event (R122). -/
  | pgtLabel (tr : Tracker)
  /-- TC hands PGT a change of the transport state; on an entry to RECORD that opened a recording,
  whether a directory entry was made (R28, R150). -/
  | pgtTransport (new : TState) (opened : Option Bool)
  /-- TC hands PGT a target set by its own rules (R158). -/
  | pgtOwnTarget (cause : OwnCause)
  /-- TC hands PGT its entry to HALTED or LOCKED_OUT; `servo` for a SERVO_UNLOCK (R158). -/
  | pgtHalted (servo : Bool)
  /-- TC hands PGT its raise of SERVO_UNLOCK (R149). -/
  | pgtServoUnlock
  /-- TC leaves RECORD by its lock watch (R157). -/
  | pgtLockWatch
  /-- EOT is seen in RECORD (R158). -/
  | pgtEot
  /-- TAU hands PGT a recording left without its entry (R85, R150). -/
  | pgtUnindexed
  /-- PGT makes a timer request (R148). -/
  | pgtRequest (t : Target)
  /-- TC refuses a timer request (R158). -/
  | pgtRefused (t : Target) (r : Reason)
  /-- R146: a record ends; `ask` when it may request STOP, `serve` when R145 follows. -/
  | pgtEnd (slot : Nat) (res : ResultCode) (ask serve : Bool)
  /-- R146 step 2: the STOP of an ending. -/
  | pgtStop
  /-- R146 step 3: the claim is freed. -/
  | pgtFree (serve : Bool)
  /-- R145: the DEFERRED records are served. -/
  | pgtServe
  /-- R146 step 4: ENDED, or the next occurrence. -/
  | pgtFinish (slot : Nat)
  /-- R142: the claim is granted. -/
  | pgtGrant (slot : Nat)
  /-- R149: the record enters STARTING in the phase CLOCK. -/
  | pgtStartClock (slot : Nat)
  /-- R149: the first RECORD request of the stay in STARTING. -/
  | pgtFirstRecord (slot : Nat)
  /-- R152: the tracker's present state is taken as if it were a label event. -/
  | pgtWatch
  /-- R153: in GO, RECORD is requested once the transport is in RECORD_PAUSE. -/
  | pgtGoCheck
  /-- R153: the record returns to WATCHING. -/
  | pgtToWatching (slot : Nat)
  /-- R141: the three parts of a passing second. -/
  | pgtCounts
  | pgtMoments
  | pgtTrigger (slot : Nat)
  /-- R140: the DEFERRED records are missed and the engaged flag is cleared. -/
  | pgtDisengage
  /-- CKU hands PGT a jump event (R159). -/
  | pgtJump
  | pgtJumpHolder
  | pgtJumpOther (slot : Nat)
  /-- R194: the catch-up. -/
  | pgtCatchUp
  deriving DecidableEq, Repr

/-- What a handler answers: the state, and the hand-overs it makes, in order. -/
abbrev Handed := State × List Task

/-- One handler after another on the state it leaves, the hand-overs of both in order. -/
def andThen (h : Handed) (f : State → Handed) : Handed := ((f h.1).1, h.2 ++ (f h.1).2)

end Sys2Proof.Machine
end

