-- ==== Sys2Proof/Machine/Ops.lean ====
section
/-!
DEFINITION. The operations every block shares: time and timers, the parameters as the blocks read
them, the condition kinds and their classes, the report requests, the transport owner, the groups of
transport states, and lists of numbered slots.
-/
namespace Sys2Proof.Machine

/-! ### Time (log 3) -/

/-- A moment `dt` ticks after the latest measured one. -/
def State.passes (s : State) (dt : Tick) : State := { s with now := s.now + dt }

/-- The moment a timer runs out: never before the latest measured moment. -/
def State.reaches (s : State) (due : Tick) : State := { s with now := max s.now due }

/-- A timer of `d` ticks started now. -/
def State.after (s : State) (d : Tick) : Option Tick := some (s.now + d)

/-- 3.1: the ticks of a millisecond. -/
def millis (n : Nat) : Tick := n * 1000

/-- 3.1: the ticks of a second. -/
def secs (n : Nat) : Tick := n * 1000000

/-! ### Lists of numbered slots -/

/-- The list with place `i` (from 0) holding `x`; unchanged when there is no such place. -/
def putAt {α : Type} (l : List α) (i : Nat) (x : α) : List α := l.set i x

/-! ### Parameters as the blocks read them -/

/-- A value for one channel. -/
def PerChannel.of {α : Type} (p : PerChannel α) : Channel → α
  | .drum => p.drum
  | .capstan => p.capstan
  | .reel => p.reel
  | .loading => p.loading

/-- The field system in force (3.2). -/
def State.field (s : State) : FieldSystem := s.lku.params.fieldSystem

/-- 3.2: the frame rate in frames per second. -/
def frameRate : FieldSystem → Nat
  | .f50 => 25
  | .f60 => 30

/-- R39: the frame period in ticks. -/
def framePeriod : FieldSystem → Nat
  | .f50 => 40000
  | .f60 => 33333

/-- 3.3: the speed factor k. -/
def Speed.factor : Speed → Nat
  | .sp => 1
  | .lp => 2
  | .ep => 3

/-- The speed of a speed factor (3.3). -/
def speedOf (k : Nat) : Speed := if k ≤ 1 then .sp else if k = 2 then .lp else .ep

/-- R9: the transport owner follows the engaged flag. -/
def State.owner (s : State) : Owner := if s.pgt.engaged then .timer else .user

/-! ### Report requests (log 6) -/

/-- R177: a report kind asked for joins those asked for, once, in the order of the first asking. -/
def askFor (l : List ReportKind) (k : ReportKind) : List ReportKind :=
  if l.contains k then l else l ++ [k]

/-- A block asks for a report of its kind (R177). -/
def want (k : ReportKind) (s : State) : State :=
  { s with lku := { s.lku with wanted := askFor s.lku.wanted k } }

/-! ### Conditions (10.6) -/

/-- Every latched condition kind, in the order of R179's table. -/
def Condition.all : List Condition :=
  [ .overcurrent .drum, .overcurrent .capstan, .overcurrent .reel, .overcurrent .loading,
    .recoveryExpired .drum, .recoveryExpired .capstan, .recoveryExpired .reel,
    .recoveryExpired .loading, .reelStall, .loadingTimeout, .lockout, .servoUnlock, .supplyLow,
    .dew, .powerFail, .linkError, .requestOverrun, .directoryFull, .afcLimit, .tapeEndNear,
    .extRequestRefused, .clockLost ]

/-- R179: the class of a latched condition kind. -/
def classOf (p : Params) : Condition → CondClass
  | .overcurrent _ => .fault
  | .recoveryExpired _ => .fault
  | .reelStall => .fault
  | .loadingTimeout => .fault
  | .lockout => .fault
  | .servoUnlock => p.classServoUnlock
  | .supplyLow => p.classSupplyLow
  | .dew => .warning
  | .powerFail => .warning
  | .linkError => .warning
  | .requestOverrun => .warning
  | .directoryFull => .warning
  | .afcLimit => .warning
  | .tapeEndNear => .warning
  | .extRequestRefused => .warning
  | .clockLost => .warning

/-- R179: the latched set with a kind added; a kind already latched is not held twice. -/
def latchIn (l : List Condition) (k : Condition) : List Condition :=
  Condition.all.filter (fun c => c == k || l.contains c)

/-! ### Transport states in groups -/

/-- The cam move of a transient state: its direction is IN when it rises (R2, R3). -/
def moveOf : TState → Option (Level × Level)
  | .accepting => some (.c0, .c1)
  | .ejecting => some (.c1, .c0)
  | .threading => some (.c1, .c2)
  | .unthreading => some (.c2, .c1)
  | .engaging => some (.c2, .c3)
  | .disengaging => some (.c3, .c2)
  | _ => none

/-- R3: the six transient states. -/
def TState.transient (t : TState) : Bool := (moveOf t).isSome

/-- R3: the level of a stable state. -/
def TState.level? : TState → Option Level
  | .empty => some .c0
  | .unthreadedStop | .windFwd | .windRev => some .c1
  | .threadedStop | .recordPause => some .c2
  | .play | .still | .record | .searchFwd | .searchRev => some .c3
  | _ => none

/-- 3.3: the drive states. -/
def TState.isDrive (t : TState) : Bool :=
  t == .play || t == .record || t == .searchFwd || t == .searchRev

/-- 1.9: the wind states. -/
def TState.isWind (t : TState) : Bool := t == .windFwd || t == .windRev

/-- 4.2: the states in which the control track is read. -/
def TState.isReading (t : TState) : Bool := t == .play || t == .searchFwd || t == .searchRev

/-- R163: the states of the output event PLAYBACK. -/
def TState.isPlayback (t : TState) : Bool :=
  t == .play || t == .still || t == .searchFwd || t == .searchRev

/-- R12: the states that an open recording survives. -/
def TState.keepsRecording (t : TState) : Bool :=
  t == .record || t == .recordPause || t == .engaging || t == .disengaging

/-- R19: the reel watched for a stall in a state, with its limit. -/
def stallWatch : TState → Option (Reel × Tick)
  | .play | .record => some (.takeUp, secs 3)
  | .searchFwd | .windFwd => some (.takeUp, secs 1)
  | .searchRev | .windRev => some (.supply, secs 1)
  | _ => none

end Sys2Proof.Machine
end

