-- ==== Sys2Proof/Machine/Flags.lean ====
section
/-!
DEFINITION. The part's flags: the output events (R163), DECK_FAULT, the indicators (R167) and the levels
of the general lines (R162), each worked out from the state of its owner.
-/
namespace Sys2Proof.Machine

/-- R179: DECK_FAULT: the latched set holds a kind whose class is FAULT. -/
def deckFault (s : State) : Bool :=
  s.lku.latched.any (fun k => classOf s.lku.params k == .fault)

/-- R91: the output event TUNER_MUTE. -/
def tunerMute (s : State) : Bool := s.tnu.state != .tuned

/-- R167: the computed conditions of the four indicators. -/
def computedConditions (s : State) : Bits4 :=
  ⟨s.pgt.engaged, s.tc.openRec, s.tau.endNear, deckFault s⟩

/-- R167: an indicator is active while its request bit or its computed condition holds. -/
def Bits4.either (x y : Bits4) : Bits4 := ⟨x.a || y.a, x.b || y.b, x.c || y.c, x.d || y.d⟩

/-- R167: the active state of the four indicators. -/
def indicators (s : State) : Bits4 := s.lnu.requests.either (computedConditions s)

/-- R163: an output event is active. An input event and NULL are no output event. -/
def outputActive (e : LineEvent) (s : State) : Bool :=
  match e with
  | .recording => s.tc.gate
  | .playback => s.tc.state.isPlayback
  | .cassetteIn => s.tau.record.isSome
  | .tapeEndNear => s.tau.endNear
  | .timerEngaged => s.pgt.engaged
  | .drumLocked => s.svu.drum.lock == .phaseLock
  | .bandLow => s.tnu.bandOut == some .low
  | .bandHigh => s.tnu.bandOut == some .high
  | .bandUhf => s.tnu.bandOut == some .uhf
  | .tunerMute => tunerMute s
  | .videoSourceExt => s.tnu.external
  | .deckFault => deckFault s
  | .indicatorA => (indicators s).a
  | .indicatorB => (indicators s).b
  | .indicatorC => (indicators s).c
  | .indicatorD => (indicators s).d
  | .framePattern0 => s.lnu.applied.p0
  | .framePattern1 => s.lnu.applied.p1
  | .null | .extRecordRequest | .extStopRequest | .counterZero => false

/-- R165: the input events. -/
def LineEvent.isInput (e : LineEvent) : Bool :=
  e == .extRecordRequest || e == .extStopRequest || e == .counterZero

/-- R163: the output events other than NULL. -/
def LineEvent.isOutput (e : LineEvent) : Bool := e != .null && !e.isInput

/-- The other level. -/
def otherLevel : PinLevel → PinLevel
  | .high => .low
  | .low => .high

/-- The assignment of a line. -/
def State.line (s : State) (i : Nat) : Assignment := s.lnu.lines.getD i Assignment.default

/-- The settled level of a line. -/
def State.settledLevel (s : State) (i : Nat) : PinLevel := s.lnu.settled.getD i .low

/-- The pin of a line as it last read (log 7). -/
def State.pinOf (s : State) (i : Nat) : PinLevel := s.pins.lines.getD i .low

/-- R162: the level that a line in OUT has to show: the active level while its event is active. -/
def lineShows (i : Nat) (s : State) : PinLevel :=
  let a := s.line i
  if outputActive a.event s then a.active else otherLevel a.active

/-- R162, R188: the level at which the part drives the pin of a line; none while the pin is released: in
IN, in an OPEN_DRAIN line that shows HIGH, and while mains is absent. -/
def lineDriven (i : Nat) (s : State) : Option PinLevel :=
  let a := s.line i
  if !a.output || s.lku.supply != .mains then none
  else if a.openDrain && lineShows i s == .high then none
  else some (lineShows i s)

/-- R162, R188: the level of a line's pin: the settled level of an input and the level that an output
drives. The board brings a released OPEN_DRAIN line high; a PUSH_PULL line released at a mains failure
stands as the pin last read (log 55). -/
def lineLevel (i : Nat) (s : State) : PinLevel :=
  if !(s.line i).output then s.settledLevel i
  else
    match lineDriven i s with
    | some v => v
    | none => if (s.line i).openDrain then .high else s.pinOf i

/-- R162, R164: the event of a line is active; NULL never is. -/
def lineActive (i : Nat) (s : State) : Bool :=
  let a := s.line i
  if a.output then outputActive a.event s
  else a.event != .null && s.settledLevel i == a.active

end Sys2Proof.Machine
end

