-- ==== Sys2Proof/Machine/Lengths.lean ====
section
/-!
DEFINITION. The lengths and times that the tape's record gives: the remaining length, and lengths shown as
times (3.5, R65).
-/
namespace Sys2Proof.Machine

/-- The present position, where there is a record that holds one. -/
def Tau.position (t : Tau) : Option Nat := t.record.bind Cassette.position

/-- R57: the whole tape length of an entry. -/
def CassEntry.total (e : CassEntry) : Nat := (e.kNom - 2 * e.hub ^ 2) * e.length / 65536

/-- R57: the remaining length for a supply wrap square. -/
def CassEntry.rem (e : CassEntry) (sq : Nat) : Nat :=
  if e.hub ^ 2 < sq then min ((sq - e.hub ^ 2) * e.length / 65536) e.total else 0

/-- An entry of the cassette table; `none` for an invalid one. -/
def Tau.entry (t : Tau) (i : Nat) : Option CassEntry := t.table.getD i none

/-- The entry of the record's class, when the class is known. -/
def Tau.classEntry (t : Tau) : Option CassEntry :=
  match t.record.map Cassette.cls with
  | some (.index i) => t.entry i
  | _ => none

/-- R57: the remaining length, when it is defined. -/
def Tau.remaining (t : Tau) : Option Nat :=
  match t.classEntry, t.position with
  | some e, some p => some (e.total - p)
  | _, _ => none

/-- R65: a remaining length shown as a time at a speed, in seconds. -/
def remainingTime (f : FieldSystem) (v : Speed) (rem : Nat) : Nat :=
  rem * v.factor / frameRate f

/-- R65: the counter shown as a time at a speed, in seconds. -/
def counterTime (f : FieldSystem) (v : Speed) (counter : Int) : Int :=
  Int.tdiv (counter * v.factor) (frameRate f)

/-- R65: the display speed. -/
def displaySpeed (s : State) : Speed :=
  if s.tc.state.isDrive then (s.tau.record.bind Cassette.speed).getD .sp else .sp

end Sys2Proof.Machine
end

