-- ==== Sys2Proof/Machine/Due.lean ====
section
/-!
DEFINITION. What a change asks for (R177): the fields whose change the owner of each report kind names,
and the asking as a change is made.
-/
namespace Sys2Proof.Machine

/-- R28: the TRANSPORT report's items. -/
def transportItems (s : State) : TransportItems where
  state := s.tc.state
  goal := s.tc.goal
  owner := s.owner
  cam := s.tc.sensors.cam
  retryCount := s.tc.retryCount
  gate := s.tc.gate
  recSpeed := s.tc.recSpeed
  cassette := s.tc.sensors.cassette
  tab := s.tc.sensors.tab
  dew := s.tc.sensors.dew
  bot := s.tc.sensors.bot
  eot := s.tc.sensors.eot
  lockWait := s.tc.lockWait

/-- R179: the CONDITION report's items. -/
def conditionItems (s : State) : ConditionItems where
  latched := s.lku.latched.map (fun k => (k, classOf s.lku.params k))
  live := s.lku.live
  deckFault := deckFault s

/-- R178: every report kind, in its order. -/
def ReportKind.all : List ReportKind := [.transport, .timer, .tape, .tuner, .clock, .condition, .line]

/-- R70: the fields of the record whose change asks for a TAPE report, and the whole seconds of the
displayed times. -/
structure TapeKey where
  tab : TabState
  cls : CassClass
  kKnown : Bool
  quality : PosQuality
  speed : Option Speed
  counterValid : Bool
  endNear : Bool
  zone : Zone
  counterTime : Int
  remainingTime : Option Nat
  deriving DecidableEq, Repr

/-- R70: the TAPE report's key of a state; absent when there is no record. -/
def tapeKey (s : State) : Option TapeKey :=
  s.tau.record.map (fun r =>
    { tab := r.tab
      cls := r.cls
      kKnown := r.k.isSome
      quality := r.quality
      speed := r.speed
      counterValid := r.counterValid
      endNear := s.tau.endNear
      zone := s.tau.zone
      counterTime := counterTime s.field (displaySpeed s) r.counter
      remainingTime := s.tau.remaining.map (remainingTime s.field (displaySpeed s)) })

/-- R70, R80, R87: two states give the same TAPE changes. -/
def sameTape (a b : State) : Bool :=
  decide (tapeKey a = tapeKey b) && decide (a.tau.seek.state = b.tau.seek.state)
    && decide (a.tau.seek.found = b.tau.seek.found)
    && decide (a.tau.directory.length = b.tau.directory.length)

/-- R106: two states give the same TUNER changes. -/
def sameTuner (a b : State) : Bool :=
  decide (a.tnu.state = b.tnu.state) && decide (a.tnu.source = b.tnu.source)
    && decide (a.tnu.base = b.tnu.base) && decide (a.tnu.band = b.tnu.band)
    && decide (a.tnu.afc = b.tnu.afc) && decide (a.tnu.owner = b.tnu.owner)
    && decide (a.tnu.external = b.tnu.external)
    && decide (a.tnu.searchResult = b.tnu.searchResult)
    && decide (a.tnu.installResult = b.tnu.installResult)
    && decide (b.tnu.installStored ≤ a.tnu.installStored)

/-- R169: the level of each line. -/
def lineLevels (s : State) : List PinLevel := (List.range 8).map (fun i => lineLevel i s)

/-- R169: two states give the same LINE changes. -/
def sameLines (a b : State) : Bool :=
  decide (a.lnu.requests = b.lnu.requests) && decide (a.lnu.staged = b.lnu.staged)
    && decide (a.lnu.applied = b.lnu.applied) && decide (lineLevels a = lineLevels b)

/-- R28, R70, R80, R106, R169, R179: what led from `a` to `b` has changed what the kind's owner names. The
TIMER and CLOCK owners ask for their reports as they make each change. -/
def reportDue (k : ReportKind) (a b : State) : Bool :=
  match k with
  | .transport => decide (transportItems a ≠ transportItems b)
  | .timer => false
  | .tape => !sameTape a b
  | .tuner => !sameTuner a b
  | .clock => false
  | .condition => decide (conditionItems a ≠ conditionItems b)
  | .line => !sameLines a b

/-- R177, R169: the kinds that one change of a block asks for: the block's own, then LINE where a line's
level goes with it (log 6). -/
def changeKinds (k : ReportKind) (before after : State) : List ReportKind :=
  [k, .line].filter (fun x => reportDue x before after)

/-- R177: a change of the block that owns a report kind, from `before` to `after`, asks for its reports as it
is made. -/
def noted (k : ReportKind) (before after : State) : State :=
  { after with lku := { after.lku with
      wanted := (changeKinds k before after).foldl askFor after.lku.wanted } }

/-- R177 (log 6): the kinds asked for by what led from `before` to `after`, in the order of the asking; a
kind that no change has asked for on its own comes last, in the order of R178. -/
def dueKinds (before after : State) : List ReportKind :=
  (ReportKind.all.filter (fun k => reportDue k before after)).foldl askFor after.lku.wanted

end Sys2Proof.Machine
end

