-- ==== Sys2Proof/Machine/Conditions.lean ====
section
/-!
DEFINITION. The conditions as every block raises them (10.6), and the motor channels by name: staging, the
immediate stop, and what running means.
-/
namespace Sys2Proof.Machine

/-! ### Raising (10.6) -/

/-- R179: LKU adds a raised kind to the latched set. -/
def latch (k : Condition) (s : State) : State :=
  noted .condition s { s with lku := { s.lku with latched := latchIn s.lku.latched k } }

/-- Every motor channel, in the order of 2.1. -/
def Channel.all : List Channel := [.drum, .capstan, .reel, .loading]

/-- R180: the live conditions with OC_ALERT_x present or absent. -/
def alertIn (l : List Channel) (c : Channel) (present : Bool) : List Channel :=
  Channel.all.filter (fun x => if x = c then present else l.contains x)

/-- R180: OC_ALERT_x appears or goes. -/
def setAlert (c : Channel) (present : Bool) (s : State) : State :=
  noted .condition s { s with lku := { s.lku with live := alertIn s.lku.live c present } }

/-- R179: a block raises a kind. LKU latches it, and hands a FAULT-class raise to TC. -/
def raiseCondition (k : Condition) (tripped : Bool) (s : State) : Handed :=
  (latch k s, if classOf s.lku.params k = .fault then [.tcFault k tripped] else [])

/-! ### Motor channels by name (2.1) -/

/-- The channel of that name. -/
def Mdu.motor (m : Mdu) : Channel → Motor
  | .drum => m.drum
  | .capstan => m.capstan
  | .reel => m.reel
  | .loading => m.loading

/-- The unit with one channel replaced. -/
def Mdu.withMotor (m : Mdu) (c : Channel) (x : Motor) : Mdu :=
  match c with
  | .drum => { m with drum := x }
  | .capstan => { m with capstan := x }
  | .reel => { m with reel := x }
  | .loading => { m with loading := x }

/-- The state with one channel replaced. -/
def State.withMotor (s : State) (c : Channel) (x : Motor) : State :=
  { s with mdu := s.mdu.withMotor c x }

/-- 2.1: a request for OFF or BRAKE drives no direction. -/
def Drive.idle (d : Drive) : Bool := d.mode == .off || d.mode == .brake

/-- The mode in which a channel rests: OFF, or BRAKE for the reel. -/
def restMode : Channel → Mode
  | .reel => .brake
  | _ => .off

/-- R29: MDU stores a request as the channel's staged request, whole. R35: OFF or BRAKE arriving
during a recovery ends it at once, and OC_ALERT_x goes. -/
def stage (c : Channel) (d : Drive) (s : State) : State :=
  let m := s.mdu.motor c
  if m.state = .recovering ∧ d.idle = true then
    setAlert c false (s.withMotor c { m with staged := d, state := .off, recoveryTimer := none })
  else s.withMotor c { m with staged := d }

/-- R33: the immediate stop of one channel. DESIGN CHOICE (log 69): a reel in LATCHED_OFF keeps its state, and
its output goes to BRAKE as that of the others does. -/
def stopMotor (c : Channel) (s : State) : State :=
  let m := s.mdu.motor c
  let rest : Drive := ⟨restMode c, 0⟩
  setAlert c false
    (s.withMotor c
      { m with
        staged := rest
        applied := rest
        state := if m.state = .latchedOff then .latchedOff else .off
        recoveryTimer := none })

/-- R33: the immediate stop of all four channels, the reel in BRAKE. -/
def stopAllMotors (s : State) : State :=
  stopMotor .loading (stopMotor .reel (stopMotor .capstan (stopMotor .drum s)))

/-- R23: a channel is running in DRIVING and RECOVERING. -/
def Motor.runs (m : Motor) : Bool := m.state == .driving || m.state == .recovering

/-- R23: motors run when any channel is running. -/
def motorsRun (s : State) : Bool :=
  s.mdu.drum.runs || s.mdu.capstan.runs || s.mdu.reel.runs || s.mdu.loading.runs

end Sys2Proof.Machine
end

