-- ==== Sys2Proof/Machine/Tuner.lean ====
section
/-!
DEFINITION. The Tuner Unit (chapter 5): dividers and bands, the synthesizer words, the tuner states,
AFC, search, install, ownership, and what a tuning change does to the Data Line Processor (R118, R121,
R124).
-/
namespace Sys2Proof.Machine

/-! ### Dividers and bands (5.1) -/

/-- R88: the intermediate frequency in kHz. -/
def ifKhz : FieldSystem → Nat
  | .f50 => 38900
  | .f60 => 45750

/-- R88: the divider of a picture frequency in kHz. -/
def dividerOf (f : FieldSystem) (khz : Nat) : Nat := (16 * (khz + ifKhz f) + 500) / 1000

/-- R88: the frequency shown for a divider, in kHz. -/
def frequencyOf (f : FieldSystem) (n : Int) : Int := (125 * n - 2 * (ifKhz f : Int) + 1) / 2

/-- R88: a divider within the divider range of a field system. -/
def inDividerRange (f : FieldSystem) (n : Nat) : Bool :=
  decide (dividerOf f 45250 ≤ n) && decide (n ≤ dividerOf f 863250)

/-- R89: the limits of a band. -/
def BandTable.limit (t : BandTable) : Band → BandLimit
  | .low => t.low
  | .high => t.high
  | .uhf => t.uhf

/-- R89: a divider lies in a band. -/
def BandLimit.holds (l : BandLimit) (n : Int) : Bool :=
  decide ((l.lo : Int) ≤ n) && decide (n ≤ (l.hi : Int))

/-- R89: the band a divider lies in, or none. -/
def BandTable.bandOf (t : BandTable) (n : Int) : Option Band :=
  if t.low.holds n then some .low
  else if t.high.holds n then some .high
  else if t.uhf.holds n then some .uhf
  else none

/-- R89: the six limits, lowest first. -/
def BandTable.limits (t : BandTable) : List (Nat × Band) :=
  [(t.low.lo, .low), (t.low.hi, .low), (t.high.lo, .high), (t.high.hi, .high), (t.uhf.lo, .uhf),
    (t.uhf.hi, .uhf)]

/-- R89: the nearest band limit with its band; the earlier one of the list on a tie. -/
def nearestOf (n : Int) : List (Nat × Band) → Option (Nat × Band)
  | [] => none
  | x :: xs =>
      match nearestOf n xs with
      | none => some x
      | some y => if (n - y.1).natAbs < (n - x.1).natAbs then some y else some x

/-- R89: the nearest band limit of a divider. -/
def BandTable.nearest (t : BandTable) (n : Int) : Nat × Band :=
  (nearestOf n t.limits).getD (t.low.lo, .low)

/-- R89: the band used for a divider. -/
def BandTable.bandFor (t : BandTable) (n : Int) : Band := (t.bandOf n).getD (t.nearest n).2

/-! ### Presets and the tuning in force -/

/-- 5.3: a preset's entry; `none` for a BLANK one. -/
def Tnu.preset (t : Tnu) (p : Nat) : Option Preset := t.presets.getD (p - 1) none

/-- A preset's entry replaced. -/
def putPreset (p : Nat) (x : Option Preset) (s : State) : State :=
  { s with tnu := { s.tnu with presets := putAt s.tnu.presets (p - 1) x } }

/-- 5.2: the tuned preset. -/
def Tnu.tuned (t : Tnu) : Option Nat :=
  match t.source with
  | .preset p => some p
  | _ => none

/-- R90: the effective divider. -/
def Tnu.effective (t : Tnu) : Option Int := t.base.map (fun b => b + t.fine + t.afc)

/-! ### Words (R90) -/

/-- R90: the word of the present band and effective divider; none in IDLE. -/
def Tnu.wordNow (t : Tnu) : Option SynthWord :=
  match t.band, t.effective with
  | some b, some d => some ⟨b, d⟩
  | _, _ => none

/-- R90: the bits of a word, first bit first: three band bits, then the effective divider in 15 bits.
The data bits of a divider that 15 bits do not hold are a free value (log 12). -/
def SynthWord.bits (w : SynthWord) : BitVec 18 :=
  let band : BitVec 3 := match w.band with
    | .low => 4
    | .high => 2
    | .uhf => 1
  let data : BitVec 15 :=
    if 0 ≤ w.divider ∧ w.divider < 32768 then BitVec.ofInt 15 w.divider else Config.wordBits w.divider
  band ++ data

/-- R90: the transfer of a word begins; the band lines show its band. -/
def beginWord (w : SynthWord) (s : State) : State :=
  noted .line s { s with tnu := { s.tnu with
      word := some w, wordPending := false, bandOut := some w.band, wordTimer := s.after 180 } }

/-- R90: a word is sent, or follows the one in transfer. -/
def sendWord (s : State) : State :=
  match s.tnu.wordNow with
  | none => s
  | some w =>
      if s.tnu.wordTimer.isSome then { s with tnu := { s.tnu with wordPending := true } }
      else beginWord w s

/-- R90: the transfer of a word ends; one further word follows when one is pending. -/
def wordEnds (s : State) : State :=
  match s.tnu.wordTimer with
  | none => s
  | some due =>
      let s1 := s.reaches due
      let s2 := { s1 with tnu := { s1.tnu with word := none, wordTimer := none, wordPending := false } }
      if s.tnu.wordPending then sendWord s2 else s2

/-! ### The Data Line Processor's part of a tuning change -/

/-- R122: the tracker becomes NO_LABEL; a change is a label event. -/
def resetTracker (s : State) : Handed :=
  let s1 := { s with dlp := { s.dlp with tracker := .noLabel, lossTimer := none } }
  if s.dlp.tracker = .noLabel then (s1, []) else (want .timer s1, [.pgtLabel .noLabel])

/-- R118: the learning counters at absent and 0. -/
def clearLearning (s : State) : State :=
  { s with dlp := { s.dlp with learnCode := none, learnCount := 0 } }

/-- R124: the pending time candidate discarded. -/
def discardCandidate (s : State) : State := { s with dlp := { s.dlp with candidate := none } }

/-- R121: the tracker reset, and the proposal dropped with it. -/
def dropTracker (s : State) : Handed :=
  resetTracker { s with dlp := { s.dlp with proposal := none } }

/-- R118, R121, R124: a tuning change as DLP takes it. -/
def retuneData (s : State) : Handed := dropTracker (discardCandidate (clearLearning s))

/-- The tracked source code. -/
def Tracker.code : Tracker → Option Nat
  | .noLabel => none
  | .live c _ _ => some c
  | .lost c _ _ => some c

/-- R118, R121: the expected source code has become `e`. DEDUCED (log 76): a tracker of another code is reset as
at a tuning change, its proposal with it. -/
def expectCode (e : Nat) (s : State) : Handed :=
  let keep : Bool := match s.dlp.proposal with
    | some p => decide (p.code = e)
    | none => true
  let s1 := if keep then s else { s with dlp := { s.dlp with proposal := none } }
  match s.dlp.tracker.code with
  | some c => if c = e then (s1, []) else dropTracker s1
  | none => (s1, [])

/-- R118, R124: the tuned preset's source code has changed. DESIGN CHOICE (log 58): a write in SETTLING,
where R114 gives no expected code, acts on the proposal and the tracker at once. -/
def codeChanged (new : Option Nat) (s : State) : Handed :=
  let s1 := discardCandidate (clearLearning s)
  match new with
  | some e => expectCode e s1
  | none => (s1, [])

/-! ### Tuning changes (R91, R92) -/

/-- R91: a tuning change to a source with its base divider and fine offset. -/
def tuningChange (src : TunedSource) (base fine : Int) (s : State) : Handed :=
  let s1 := noted .tuner s { s with tnu := { s.tnu with
    source := src
    base := some base
    fine := fine
    afc := 0
    band := some (s.tnu.limits.bandFor base) } }
  retuneData (sendWord s1)

/-- R92: the state SETTLING with its timer from zero; nothing of a scan or of AFC runs in it. -/
def settle (s : State) : State :=
  noted .tuner s { s with tnu := { s.tnu with
      state := .settling
      settleTimer := s.after (millis 80)
      afcTimer := none
      scanTimer := none
      dwellTimer := none
      candidate := none
      scan := { s.tnu.scan with phase := .idle } } }

/-- R92: a tune to a source. -/
def settleOn (src : TunedSource) (base fine : Int) (s : State) : Handed :=
  tuningChange src base fine (settle s)

/-- R92: a preset tuned through SETTLING. -/
def retunePreset (p : Nat) (s : State) : Handed :=
  match s.tnu.preset p with
  | none => (s, [])
  | some x => settleOn (.preset p) x.n x.fine s

/-- R96, R103, R104: a preset tuned; it becomes the last tuned preset. -/
def tunePresetNow (p : Nat) (s : State) : Handed :=
  let h := retunePreset p s
  ({ h.1 with tnu := { h.1.tnu with lastTuned := some p } }, h.2)

/-- R96, R104: the tuned source is PRESET p, in SETTLING or TUNED. -/
def Tnu.isOn (t : Tnu) (p : Nat) : Bool :=
  t.source == .preset p && (t.state == .settling || t.state == .tuned)

/-- R96: the tune of TUNE_PRESET and TUNE_STEP. -/
def tuneTo (p : Nat) (s : State) : Handed := if s.tnu.isOn p then (s, []) else tunePresetNow p s

/-- R92, R97: the settling timer runs out. -/
def settled (s : State) : State :=
  match s.tnu.settleTimer with
  | none => s
  | some due =>
      let s1 := s.reaches due
      noted .tuner s1 { s1 with tnu := { s1.tnu with
          state := .tuned, settleTimer := none, afcTimer := s1.after (millis 100) } }

/-- R91: the tuner returns to IDLE. -/
def goIdle (s : State) : Handed :=
  retuneData
    (noted .tuner s { s with tnu := { s.tnu with
        state := .idle
        source := .none
        base := none
        fine := 0
        band := none
        afc := 0
        bandOut := none
        wordPending := false
        settleTimer := none
        afcTimer := none
        scanTimer := none
        dwellTimer := none
        candidate := none
        scan := { s.tnu.scan with phase := .idle } } })

/-- R96, R116: a new fine offset; the AFC offset becomes 0, a word is sent and settling restarts. In
SETTLING learning does not run, so its counters are held at absent and 0 (log 25). -/
def setFine (v : Int) (s : State) : State :=
  clearLearning (sendWord (settle (noted .tuner s { s with tnu := { s.tnu with fine := v, afc := 0 } })))

/-- R96: FINE_TUNE on the tuned preset, where it is stored, or on a direct tuning. -/
def fineTuneTo (v : Int) (s : State) : State :=
  match s.tnu.tuned with
  | some p => setFine v (putPreset p ((s.tnu.preset p).map (fun x => { x with fine := v })) s)
  | none => setFine v s

/-! ### AFC (5.5) -/

/-- R97, R99: the step an AFC window reading asks for; both inputs active read as centred. -/
def windowStep (low high : Bool) : Int := if low = high then 0 else if low then 1 else -1

/-- R97: AFC runs on the tuned preset. -/
def Tnu.afcRuns (t : Tnu) : Bool :=
  match t.tuned with
  | some p => t.state == .tuned && ((t.preset p).map Preset.afc).getD false
  | none => false

/-- R97: an AFC reading that asks for a step. -/
def afcRead (step : Int) (s : State) : State :=
  let next := s.tnu.afc + step
  if next < -4 ∨ 4 < next then
    let s1 := { s with tnu := { s.tnu with afcAtLimit := true } }
    if s.tnu.afcAtLimit then s1 else latch .afcLimit s1
  else
    let s1 := noted .tuner s { s with tnu := { s.tnu with afc := next, afcAtLimit := false } }
    if step = 0 then s1 else sendWord s1

/-- R97: the AFC timer runs out and restarts; the window is read where AFC runs. -/
def afcExpires (low high : Bool) (s : State) : State :=
  match s.tnu.afcTimer with
  | none => s
  | some due =>
      let s1 := s.reaches due
      let s2 := { s1 with tnu := { s1.tnu with afcTimer := s1.after (millis 100) } }
      if s2.tnu.afcRuns then afcRead (windowStep low high) s2 else s2

/-! ### Scans (5.6) -/

/-- R98: the band after a band going UP; the answer says whether the scan wraps. -/
def bandAbove : Band → Band × Bool
  | .low => (.high, false)
  | .high => (.uhf, false)
  | .uhf => (.low, true)

/-- R98: the band after a band going DOWN. -/
def bandBelow : Band → Band × Bool
  | .uhf => (.high, false)
  | .high => (.low, false)
  | .low => (.uhf, true)

/-- R98: the divider `stride` further on from `n` in the band `b`, brought into the next band where it
passes that one; the answer says whether the scan wraps. DESIGN CHOICE (log 57): a divider outside the
bands on the side the scan comes from is tested as it is. -/
def BandTable.advance (t : BandTable) (up : Bool) (b : Band) (n : Int) (stride : Nat) : Int × Bool :=
  if up then
    let m := n + stride
    if (t.limit b).hi < m then ((t.limit (bandAbove b).1).lo, (bandAbove b).2) else (m, false)
  else
    let m := n - stride
    if m < (t.limit b).lo then ((t.limit (bandBelow b).1).hi, (bandBelow b).2) else (m, false)

/-- R98: a divider is tested: the tuned source SCAN, then the wait of 80 ms. -/
def testDivider (n : Int) (s : State) : Handed :=
  let h := tuningChange .scan n 0 s
  ({ h.1 with tnu := { h.1.tnu with
      scan := { h.1.tnu.scan with phase := .settling, detections := 0, steps := 0 }
      scanTimer := h.1.after (millis 80) } }, h.2)

/-- R100, R103, R106: a search or install that runs ends CANCELLED; a candidate is discarded. -/
def cancelScan (s : State) : State :=
  match s.tnu.state with
  | .searching =>
      want .tuner { s with tnu := { s.tnu with
          searchResult := .cancelled, scanTimer := none
          scan := { s.tnu.scan with phase := .idle } } }
  | .installing =>
      want .tuner { s with tnu := { s.tnu with
          installResult := .cancelled, candidate := none, scanTimer := none, dwellTimer := none
          scan := { s.tnu.scan with phase := .idle } } }
  | _ => s

/-- R98: the tuning held at the start of a search or install. -/
def Tnu.holding (t : Tnu) : HeldTuning :=
  match t.state with
  | .searching | .installing => t.held
  | _ =>
      match t.source, t.base with
      | .preset p, some b => .preset p b t.fine
      | _, some b => .direct b t.fine
      | _, none => .idle

/-- R98: the state of a search or install as its scan begins. -/
def enterScan (st : TunerState) (up : Bool) (start : Int) (wrapped : Bool) (s : State) : State :=
  noted .tuner s { s with tnu := { s.tnu with
      state := st
      held := s.tnu.holding
      settleTimer := none
      afcTimer := none
      dwellTimer := none
      candidate := none
      scan := { up := up, start := start, wrapped := wrapped, phase := .settling
                detections := 0, steps := 0 } } }

/-- R98: a search begins, a search or install that runs having ended CANCELLED. -/
def beginSearch (up : Bool) (s : State) : Handed :=
  let c := cancelScan s
  let t := s.tnu.limits
  let first : Int × Bool :=
    match s.tnu.base, s.tnu.band with
    | some b, some band => t.advance up band b 32
    | _, _ => (if up then t.low.lo else t.uhf.hi, false)
  let start := s.tnu.base.getD first.1
  let s1 := enterScan .searching up start first.2 c
  testDivider first.1
    (noted .tuner s1 { s1 with tnu := { s1.tnu with
        searchResult := .running, searchUp := up, foundDivider := none } })

/-- R101: an install begins. -/
def beginInstall (p : Nat) (s : State) : Handed :=
  let first : Int := s.tnu.limits.low.lo
  let s1 := enterScan .installing true first false (cancelScan s)
  testDivider first
    (noted .tuner s1 { s1 with tnu := { s1.tnu with
        installResult := .running, installFirst := p, installNext := p, installStored := 0
        installCodes := [] } })

/-- R100: TNU returns to the tuning held at the start of the scan (log 24 for a preset written BLANK
since). -/
def returnToHeld (s : State) : Handed :=
  match s.tnu.held with
  | .idle => goIdle s
  | .direct b f => settleOn .direct b f s
  | .preset p b f =>
      match s.tnu.preset p with
      | some x => settleOn (.preset p) x.n x.fine s
      | none => settleOn .direct b f s

/-- R100: a search ends NOT_FOUND. -/
def searchFails (s : State) : Handed :=
  returnToHeld
    (noted .tuner s
      { s with tnu := { s.tnu with searchResult := .notFound, foundDivider := none } })

/-- R103: an install ends. -/
def installEnds (s : State) : Handed :=
  let s1 := noted .tuner s { s with tnu := { s.tnu with installResult := .ended } }
  if 0 < s.tnu.installStored then tunePresetNow s.tnu.installFirst s1 else returnToHeld s1

/-- R98: the scan's end: it would wrap again, or after the wrap reach or pass its start. -/
def Scan.meetsEnd (k : Scan) (next : Int × Bool) : Bool :=
  (k.wrapped && next.2) ||
    ((k.wrapped || next.2) &&
      (if k.up then decide (k.start ≤ next.1) else decide (next.1 ≤ k.start)))

/-- R98, R101: the scan moves on by a stride. -/
def nextStride (stride : Nat) (s : State) : Handed :=
  match s.tnu.base, s.tnu.band with
  | some b, some band =>
      let next := s.tnu.limits.advance s.tnu.scan.up band b stride
      if s.tnu.state = .installing then
        if next.2 then installEnds s else testDivider next.1 s
      else if s.tnu.scan.meetsEnd next then searchFails s
      else
        testDivider next.1
          { s with tnu := { s.tnu with
              scan := { s.tnu.scan with wrapped := s.tnu.scan.wrapped || next.2 } } }
  | _, _ => (s, [])

/-- R98: SYNC_PRESENT is sampled. -/
def sampleSync (present : Bool) (s : State) : Handed :=
  match s.tnu.scanTimer, s.tnu.scan.phase with
  | some due, .settling | some due, .checking =>
      let s1 := s.reaches due
      if present then
        let n := s.tnu.scan.detections + 1
        let s2 := { s1 with tnu := { s1.tnu with scanTimer := s1.after (millis 20) } }
        let phase : ScanPhase := if n < 3 then .checking else .fineStepping
        ({ s2 with tnu := { s2.tnu with
            scan := { s2.tnu.scan with phase := phase, detections := n } } }, [])
      else nextStride 16 { s1 with tnu := { s1.tnu with scanTimer := none } }
  | _, _ => (s, [])

/-- R101: the install candidate of a station. -/
def candidateAt (n : Int) : Preset where
  n := n.toNat
  fine := 0
  skip := false
  afc := true
  timeSource := false
  code := none
  name := none

/-- R99, R101: fine stepping ends at the scan divider: a search is FOUND, an install dwells on its
candidate. -/
def stationFound (n : Int) (s : State) : Handed :=
  let s1 := { s with tnu := { s.tnu with
    scanTimer := none, scan := { s.tnu.scan with phase := .idle } } }
  if s.tnu.state = .installing then
    tuningChange .candidate n 0
      { s1 with tnu := { s1.tnu with
          candidate := some (candidateAt n), dwellTimer := s1.after (secs 2) } }
  else
    (noted .tuner s1 { s1 with tnu := { s1.tnu with
        searchResult := .found
        foundDivider := some n
        source := .direct
        fine := 0
        state := .tuned
        afcTimer := s1.after (millis 100) } }, [])

/-- R99, R91: a fine step to a divider: a tuning change that keeps the band of the detection. -/
def fineStepTo (n : Int) (s : State) : Handed :=
  retuneData (sendWord (noted .tuner s { s with tnu := { s.tnu with base := some n, afc := 0 } }))

/-- R99: the AFC window is read in fine stepping. -/
def readFineStep (low high : Bool) (s : State) : Handed :=
  match s.tnu.scanTimer, s.tnu.scan.phase, s.tnu.base with
  | some due, .fineStepping, some b =>
      let s1 := s.reaches due
      let d := windowStep low high
      if d = 0 then stationFound b s1
      else
        let k := { s1.tnu.scan with steps := s1.tnu.scan.steps + 1 }
        let h := fineStepTo (b + d)
          { s1 with tnu := { s1.tnu with scan := k, scanTimer := s1.after (millis 20) } }
        if 16 ≤ k.steps then
          let f := stationFound (b + d) h.1
          (f.1, h.2 ++ f.2)
        else h
  | _, _, _ => (s, [])

/-- R102: the candidate written into the next preset. -/
def storeCandidate (x : Preset) (s : State) : State :=
  let q := s.tnu.installNext
  let s1 := putPreset q (some x) s
  noted .tuner s1 { s1 with tnu := { s1.tnu with
      installCodes := s1.tnu.installCodes ++ x.code.toList
      installStored := s1.tnu.installStored + 1
      installNext := if q < 60 then q + 1 else q } }

/-- R102: a candidate whose code this install has stored already. -/
def Tnu.duplicate (t : Tnu) (x : Preset) : Bool :=
  match x.code with
  | some c => t.installCodes.contains c
  | none => false

/-- R102: the dwell runs out. -/
def dwellExpires (s : State) : Handed :=
  match s.tnu.dwellTimer, s.tnu.candidate with
  | some due, some x =>
      let s1 := s.reaches due
      let s2 := { s1 with tnu := { s1.tnu with dwellTimer := none, candidate := none } }
      if s.tnu.duplicate x then nextStride 32 s2
      else
        let s3 := storeCandidate x s2
        if s.tnu.installNext < 60 then nextStride 32 s3 else installEnds s3
  | _, _ => (s, [])

/-! ### Ownership (5.8) -/

/-- R104: a grant of the deck claim. -/
def grantTuner (src : Source) (s : State) : Handed :=
  match src with
  | .external =>
      (noted .tuner s { s with tnu := { s.tnu with owner := .user, external := true } }, [])
  | .preset p =>
      tuneTo p
        (cancelScan
          (noted .tuner s { s with tnu := { s.tnu with owner := .timer, external := false } }))

/-- R104: the release of the claim. -/
def releaseTuner (s : State) : State := noted .tuner s { s with tnu := { s.tnu with owner := .user } }

/-! ### Writes and offers (5.3) -/

/-- R93: what a write to the tuned preset does beside a change of N: the fine offset, AFC, the source
code and time_source. -/
def rewriteTuned (old new : Preset) (s : State) : Handed :=
  let s1 := if old.fine = new.fine then s else setFine new.fine s
  let s2 :=
    if old.afc = true ∧ new.afc = false ∧ s1.tnu.afc ≠ 0 then
      sendWord (noted .tuner s1 { s1 with tnu := { s1.tnu with afc := 0 } })
    else s1
  let s3 := if old.timeSource = new.timeSource then s2 else discardCandidate s2
  if old.code = new.code then (s3, []) else codeChanged new.code s3

/-- R93: a write of BLANK to the tuned preset turns the tuning into a direct one. -/
def blankTuned (s : State) : State :=
  let s1 := noted .tuner s { s with tnu := { s.tnu with source := .direct, afc := 0 } }
  discardCandidate (clearLearning (if s.tnu.afc = 0 then s1 else sendWord s1))

/-- R93: a preset written, with what it does to the tuning. -/
def writePreset (p : Nat) (new : Option Preset) (s : State) : Handed :=
  let s1 := putPreset p new s
  if s.tnu.source = .preset p then
    match new, s.tnu.preset p with
    | none, _ => (blankTuned s1, [])
    | some x, some old =>
        if x.n = old.n then rewriteTuned old x s1 else settleOn (.preset p) x.n x.fine s1
    | some x, none => settleOn (.preset p) x.n x.fine s1
  else (s1, [])

/-- R94: a source code offered for a preset, or for the candidate; taken where none is held. -/
def offerCode (code : Nat) (s : State) : Handed :=
  match s.tnu.source with
  | .preset p =>
      match s.tnu.preset p with
      | some x =>
          if x.code = none then
            codeChanged (some code) (putPreset p (some { x with code := some code }) s)
          else (s, [])
      | none => (s, [])
  | .candidate =>
      match s.tnu.candidate with
      | some x =>
          if x.code = none then
            codeChanged (some code)
              { s with tnu := { s.tnu with candidate := some { x with code := some code } } }
          else (s, [])
      | none => (s, [])
  | _ => (s, [])

/-- R94: a name offered for a preset, or for the candidate. -/
def offerName (name : List Byte) (s : State) : State :=
  match s.tnu.source with
  | .preset p => putPreset p ((s.tnu.preset p).map (fun x => { x with name := some name })) s
  | .candidate =>
      { s with tnu := { s.tnu with
          candidate := s.tnu.candidate.map (fun x => { x with name := some name }) } }
  | _ => s

/-- R89: the band limit table replaced; a tuning in force finds its band again. -/
def writeLimits (t : BandTable) (s : State) : State :=
  let s1 := { s with tnu := { s.tnu with limits := t } }
  match s.tnu.base with
  | none => s1
  | some b =>
      if s.tnu.band = some (t.bandFor b) then s1
      else sendWord (noted .tuner s1 { s1 with tnu := { s1.tnu with band := some (t.bandFor b) } })

/-- R96: the presets in the order in which TUNE_STEP looks at them, from the one counted from. -/
def stepOrder (up : Bool) (start : Nat) : List Nat :=
  (List.range 60).map (fun i => if up then (start + i) % 60 + 1 else (start + 58 - i) % 60 + 1)

/-- R95, R96: a preset that TUNE_STEP may take. -/
def Tnu.steppable (t : Tnu) (p : Nat) : Bool :=
  match t.preset p with
  | some x => !x.skip
  | none => false

/-- R96: the preset TUNE_STEP finds. -/
def Tnu.stepTarget (t : Tnu) (up : Bool) : Option Nat :=
  let start := (t.tuned.or t.lastTuned).getD (if up then 60 else 1)
  (stepOrder up start).find? t.steppable

/-- R107: a warm start tunes the last tuned preset when it is STORED. -/
def warmTune (s : State) : Handed :=
  match s.tnu.lastTuned with
  | some p => retunePreset p s
  | none => (s, [])

end Sys2Proof.Machine
end

