-- ==== Sys2Proof/Machine/Clock.lean ====
section
/-!
DEFINITION. The Clock Unit (chapter 7): the passing second, the settings of the clock and the jump
events.
-/
namespace Sys2Proof.Machine

/-- The clock time as a calendar time (10.8). -/
def State.clock (s : State) : Nat := s.cku.now.seconds

/-- The hand-overs of a passing second to PGT (R141). -/
def secondTasks : List Task :=
  [.pgtCounts, .pgtMoments] ++ (List.range' 1 16).map Task.pgtTrigger

/-- R133: a jump event is handed to PGT, the clock already holding the new time. -/
def handJump (cause : JumpCause) (old : DateTime) (s : State) : Handed :=
  (want .clock { s with cku := { s.cku with lastJump := some ⟨cause, old, s.cku.now⟩ } },
    [.pgtJump])

/-- R127: the part of a passing second that runs on backup too. -/
def advanceClock (s : State) : State :=
  { s with cku := { s.cku with
      now := s.cku.now.advance, prescaler := 0, holdOff := s.cku.holdOff - 1 } }

/-- R127, R128, R134: a second passes while mains is present. DESIGN CHOICE (log 65): at the wrap PGT takes
the passing second before the jump. -/
def passSecond (s : State) : Handed :=
  let s1 := advanceClock s
  let s2 := if s1.cku.now.second = 0 then want .clock s1 else s1
  if s.cku.now = DateTime.last then
    andThen (s2, secondTasks) (handJump .wrap s.cku.now)
  else (s2, secondTasks)

/-- R130, R132: the clock is set; the prescaler returns to 0 and DLP discards its candidate. -/
def putClock (t : DateTime) (st : ClockState) (s : State) : State :=
  discardCandidate
    (want .clock { s with cku := { s.cku with now := t, prescaler := 0, state := st } })

/-- R130: CLOCK_SET taken. -/
def setClock (t : DateTime) (s : State) : Handed :=
  let s1 := putClock t .set s
  if t = s.cku.now then (s1, []) else handJump .user s.cku.now s1

/-- R131: the pair of a new and a pending candidate is accepted. -/
def pairAccepted (p n : TimeCandidate) (s : State) : Bool :=
  s.lku.params.broadcastTime && s.cku.holdOff == 0 && decide (p.time + 1 ≤ n.time)
    && decide ((n.diff - p.diff).natAbs ≤ 2)

/-- R132: an accepted pair sets the clock, as a trim or as a jump. -/
def acceptTime (n : TimeCandidate) (s : State) : Handed :=
  let s1 := putClock (DateTime.ofSeconds n.time) .broadcast s
  let s2 := { s1 with cku := { s1.cku with holdOff := 60 } }
  if n.diff.natAbs ≤ 2 then (s2, []) else handJump .broadcast s.cku.now s2

/-- R131: a candidate handed with the pending one, or with none. -/
def considerPair (pending : Option TimeCandidate) (n : TimeCandidate) (s : State) : Handed :=
  match pending with
  | none => (s, [])
  | some p => if pairAccepted p n s then acceptTime n s else (s, [])

end Sys2Proof.Machine
end

