-- ==== Sys2Proof/Machine/DataLines.lean ====
section
/-!
DEFINITION. The Data Line Processor (chapter 6): the packet's content, forwarding, learning, the live
label tracker and the time candidates.
-/
namespace Sys2Proof.Machine

/-! ### The packet (6.1, 10.8) -/

/-- What a data line carries (6.1). The label NONE is an absent value. -/
inductive LineContent where
  | time (code : Nat) (utc : DateTime) (offset : Int)
  | label (code : Nat) (value : Option Label) (status : LabelStatus)
  | name (code : Nat) (chars : List Byte)
  | other
  deriving DecidableEq, Repr

/-- A service of its code. -/
def serviceOf : Nat → Option Service
  | 0 => some .time
  | 1 => some .label
  | 2 => some .name
  | 3 => some .other
  | _ => none

/-- A grade of its code. -/
def qualityOf : Nat → Option LineQuality
  | 0 => some .good
  | 1 => some .corrected
  | 2 => some .bad
  | _ => none

/-- A label status of its code. -/
def labelStatusOf : Nat → Option LabelStatus
  | 0 => some .soon
  | 1 => some .running
  | 2 => some .brk
  | _ => none

/-- 6.1: BAD is the lowest grade, GOOD the highest. -/
def LineQuality.rank : LineQuality → Nat
  | .bad => 0
  | .corrected => 1
  | .good => 2

/-- R172: the payload length fits the service. -/
def fitsService (v : Service) (len : Nat) : Bool :=
  match v with
  | .time => len == 14
  | .label => len == 11
  | .name => len == 14
  | .other => decide (4 ≤ len) && decide (len ≤ 40)

/-- R109, R172: the items of a packet that is not malformed: line, quality and service. -/
def lineItems (p : List Byte) : Option (Nat × LineQuality × Service) :=
  let line := byteAt p 1
  match qualityOf (byteAt p 2), serviceOf (byteAt p 3) with
  | some q, some v =>
      if 4 ≤ p.length ∧ (byteAt p 0 = 1 ∨ byteAt p 0 = 2) ∧ 6 ≤ line ∧ line ≤ 22
          ∧ fitsService v p.length = true then
        some (line, q, v)
      else none
  | _, _ => none

/-- R108: the content of a TIME packet, when it is valid. -/
def timeContent (p : List Byte) : Option LineContent :=
  let utc : DateTime :=
    ⟨byteAt p 6, byteAt p 7, 2000 + byteAt p 8, byteAt p 9, byteAt p 10, byteAt p 11⟩
  let offset := signedAt p 12
  if utc.valid = true ∧ -24 ≤ offset ∧ offset ≤ 24 then
    some (.time (numberAt p 4 2) utc offset)
  else none

/-- R108: the content of a LABEL packet, when it is valid. -/
def labelContent (p : List Byte) : Option LineContent :=
  let v : Label := ⟨byteAt p 6, byteAt p 7, byteAt p 8, byteAt p 9⟩
  match labelStatusOf (byteAt p 10) with
  | none => none
  | some st =>
      if v.day = 0 ∧ v.month = 0 then some (.label (numberAt p 4 2) none st)
      else if 1 ≤ v.day ∧ v.day ≤ 31 ∧ 1 ≤ v.month ∧ v.month ≤ 12 ∧ v.hour ≤ 23 ∧ v.minute ≤ 59 then
        some (.label (numberAt p 4 2) (some v) st)
      else none

/-- R108: a character from 32 to 126. -/
def printable (b : Byte) : Bool := decide (32 ≤ b.toNat) && decide (b.toNat ≤ 126)

/-- R108: the content of a packet, when it is valid. -/
def contentOf (v : Service) (p : List Byte) : Option LineContent :=
  match v with
  | .time => timeContent p
  | .label => labelContent p
  | .name =>
      let cs := (p.drop 6).take 8
      if cs.all printable then some (.name (numberAt p 4 2) cs) else none
  | .other => some .other

/-! ### Forwarding (6.2) -/

/-- R110: an entry covers a service. -/
def FilterEntry.covers (e : FilterEntry) : Service → Bool
  | .time => e.time
  | .label => e.label
  | .name => e.name
  | .other => e.other

/-- R110: an entry matches a packet. -/
def FilterEntry.matches (e : FilterEntry) (line : Nat) (q : LineQuality) (v : Service) : Bool :=
  decide (e.first ≤ line) && decide (line ≤ e.last) && e.covers v
    && decide (e.minimum.rank ≤ q.rank)

/-- R110: the action of a packet: that of the first entry that matches, DROP when none does. -/
def lineAction (table : List (Option FilterEntry)) (line : Nat) (q : LineQuality) (v : Service) :
    FilterAction :=
  match table with
  | [] => .drop
  | none :: es => lineAction es line q v
  | some e :: es => if e.matches line q v then e.action else lineAction es line q v

/-- A packet of the queue is a forwarded copy. -/
def Packet.isCopy : Packet → Bool
  | .copy _ _ => true
  | _ => false

/-- A packet of the queue is a reply. -/
def Packet.isReply : Packet → Bool
  | .reply _ => true
  | _ => false

/-- R175: the forwarded copies that are waiting. -/
def copiesWaiting (q : List Packet) : Nat := (q.filter Packet.isCopy).length

/-- R111, R175: a copy joins the queue within its share, or is counted in FORWARD_DROPPED. -/
def offerCopy (display : Bool) (p : List Byte) (s : State) : State :=
  if copiesWaiting s.lku.queue < 16 then
    { s with lku := { s.lku with queue := s.lku.queue ++ [.copy display p] } }
  else { s with dlp := { s.dlp with dropped := satSucc 65535 s.dlp.dropped } }

/-- R110, R111: a packet is forwarded as the filter table gives. -/
def forwardLine (line : Nat) (q : LineQuality) (v : Service) (p : List Byte) (s : State) : State :=
  match lineAction s.dlp.filter line q v with
  | .forwardDisplay => offerCopy true p s
  | .forwardSystem => offerCopy false p s
  | .drop => s

/-! ### The tuned context (6.3) -/

/-- R114: the tuned context. -/
def State.context (s : State) : TunedContext :=
  match s.tnu.state, s.tnu.source with
  | .tuned, .preset p => .preset p
  | .tuned, .direct => .direct
  | .installing, .candidate => .candidate
  | _, _ => .none

/-- R114: the entry the context stands for: the tuned preset, or the install candidate. -/
def State.contextEntry (s : State) : Option Preset :=
  match s.context with
  | .preset p => s.tnu.preset p
  | .candidate => s.tnu.candidate
  | _ => none

/-- R114: the expected source code. -/
def State.expected (s : State) : Option Nat := s.contextEntry.bind Preset.code

/-- R116: source learning runs. -/
def State.learning (s : State) : Bool :=
  s.contextEntry.isSome && s.expected.isNone && s.lku.params.learnSources

/-- R115, test 2: the quality a service must have to be acted on. -/
def actsOnQuality (v : Service) (q : LineQuality) : Bool :=
  match v with
  | .time => q == .good
  | .label | .name => q != .bad
  | .other => false

/-- The source code a content carries. -/
def LineContent.code : LineContent → Option Nat
  | .time c _ _ => some c
  | .label c _ _ => some c
  | .name c _ => some c
  | .other => none

/-- R115: a content of code `c` passes tests 4 and 5. -/
def State.accepts (s : State) (c : Nat) : Bool :=
  s.context != .none && (s.expected == none || s.expected == some c)

/-! ### Learning (6.4) -/

/-- R116: an acted-on packet of code `c` as source learning takes it. -/
def learnCode (c : Nat) (s : State) : Handed :=
  if s.learning then
    let n := if s.dlp.learnCode = some c then s.dlp.learnCount + 1 else 1
    if n < 3 then
      ({ s with dlp := { s.dlp with learnCode := some c, learnCount := n } }, [])
    else offerCode c (clearLearning s)
  else (s, [])

/-- R117: the name of 8 characters with the trailing spaces removed. -/
def trimName (cs : List Byte) : List Byte := (cs.reverse.dropWhile (· == 32)).reverse

/-- R117: a NAME packet gives a name offer. -/
def learnName (cs : List Byte) (s : State) : State :=
  if s.lku.params.learnSources = true ∧ s.expected.isSome = true ∧ trimName cs ≠ [] then
    offerName (trimName cs) s
  else s

/-! ### The live label tracker (6.5) -/

/-- R119: the loss timer restarts when the tracker is LIVE after the packet. -/
def restartLoss (s : State) : State :=
  match s.dlp.tracker with
  | .live _ _ _ => { s with dlp := { s.dlp with lossTimer := s.after (secs 10) } }
  | _ => s

/-- R119: the tracker takes a LABEL packet. -/
def trackLabel (c : Nat) (v : Option Label) (st : LabelStatus) (s : State) : Handed :=
  if s.dlp.tracker = .live c v st then
    (restartLoss { s with dlp := { s.dlp with proposal := none } }, [])
  else if s.dlp.proposal = some ⟨c, v, st⟩ then
    let s1 := { s with dlp := { s.dlp with tracker := .live c v st, proposal := none } }
    (want .timer (restartLoss s1), [.pgtLabel (.live c v st)])
  else (restartLoss { s with dlp := { s.dlp with proposal := some ⟨c, v, st⟩ } }, [])

/-- R120: the tracker as the loss timer leaves it. -/
def Tracker.lose : Tracker → Tracker
  | .live c v st => .lost c v st
  | t => t

/-- R120: the loss timer runs out. -/
def lossExpires (s : State) : Handed :=
  match s.dlp.lossTimer with
  | none => (s, [])
  | some due =>
      let s1 := s.reaches due
      let t := s.dlp.tracker.lose
      (want .timer { s1 with dlp := { s1.dlp with tracker := t, proposal := none, lossTimer := none } },
        [.pgtLabel t])

/-! ### Time candidates (6.6) -/

/-- R123: the candidate time of a UTC time and an offset in half-hours, when the calendar holds it. -/
def candidateTime (utc : DateTime) (offset : Int) : Option Nat :=
  let t : Int := (utc.seconds : Int) + offset * 1800
  if 0 ≤ t ∧ t ≤ calendarMax then some t.toNat else none

/-- R123: the tuned context is a preset whose time_source is yes and whose source code is present. -/
def State.timeSource (s : State) : Bool :=
  match s.context with
  | .preset p => ((s.tnu.preset p).map (fun x => x.timeSource && x.code.isSome)).getD false
  | _ => false

/-- R123: a TIME packet produces a candidate, handed to CKU with the pending one; it then is the
pending candidate. -/
def produceTime (utc : DateTime) (offset : Int) (s : State) : Handed :=
  match s.timeSource, candidateTime utc offset with
  | true, some t =>
      let n : TimeCandidate := ⟨t, (t : Int) - s.clock⟩
      considerPair s.dlp.candidate n { s with dlp := { s.dlp with candidate := some n } }
  | _, _ => (s, [])

/-! ### A packet taken (R109, R115) -/

/-- R115, steps 2 to 4. -/
def actContent (x : LineContent) (s : State) : Handed :=
  match x with
  | .name _ cs => (learnName cs s, [])
  | .label c v st => trackLabel c v st s
  | .time _ utc offset => produceTime utc offset s
  | .other => (s, [])

/-- R115: a packet is acted on when it passes the five tests. DEDUCED (log 64): the packet's own steps come
before PGT takes a NO_LABEL that its first step has made. -/
def actOnLine (q : LineQuality) (v : Service) (p : List Byte) (s : State) : Handed :=
  match contentOf v p with
  | none => (s, [])
  | some x =>
      match x.code with
      | none => (s, [])
      | some c =>
          if actsOnQuality v q && s.accepts c then andThen (learnCode c s) (actContent x)
          else (s, [])

/-- R109, R172: DLP takes a received packet of class DATA_LINE. -/
def takeDataLine (p : List Byte) (s : State) : Handed :=
  match lineItems p with
  | none => (latch .linkError s, [])
  | some (line, q, v) => actOnLine q v p (forwardLine line q v p s)

end Sys2Proof.Machine
end

