-- ==== Sys2Proof/Machine/Motors.lean ====
section
/-!
DEFINITION. The Motor Drive Unit (2.1 to 2.4): staging is `stage` and the immediate stop `stopMotor`
of Ops; here stand the period start, the trips, the recoveries and the release.
-/
namespace Sys2Proof.Machine

/-- R30 step 2: the applied duty of a period that drives, compensated for the supply `v` and clamped
to the channel's ceiling. -/
def appliedDuty (requested vNom v ceiling : Nat) : Nat :=
  let vEff := max v 60
  min ((requested * vNom + vEff / 2) / vEff) ceiling

/-- R30, R33: which of OFF and DRIVING a channel stands in after a period start; a channel in
RECOVERING or LATCHED_OFF stays there. -/
def Motor.atPeriodStart (m : Motor) : Motor :=
  match m.state with
  | .off | .driving =>
      if m.staged.idle then { m with state := .off, applied := ⟨m.staged.mode, 0⟩ }
      else { m with state := .driving }
  | .recovering | .latchedOff => m

/-- R30: a period of a bridge channel, with its dead zone `dz` and the duty it would drive with. -/
def Motor.formBridge (dz duty : Nat) (m : Motor) : Motor :=
  if m.state = .driving then
    let d := m.staged.mode
    if m.lastDir = none ∨ m.lastDir = some d ∨ dz ≤ m.offCount then
      { m with applied := ⟨d, duty⟩, lastDir := some d, offCount := 0 }
    else { m with applied := ⟨.off, 0⟩, offCount := satSucc 15 m.offCount }
  else { m with offCount := satSucc 15 m.offCount }

/-- R30: a period of the drum. -/
def Motor.formDrum (duty : Nat) (m : Motor) : Motor :=
  if m.state = .driving then { m with applied := ⟨.run, duty⟩ } else m

/-- R31: a period of the capstan, with its direction output before the period start; the channel
and the direction output after it. -/
def Motor.formCapstan (duty : Nat) (reverse : Bool) (m : Motor) : Motor × Bool :=
  if m.state = .driving then
    match m.staged.mode with
    | .hold => ({ m with applied := ⟨.hold, 0⟩ }, false)
    | .rev => ({ m with applied := ⟨.rev, if reverse then duty else 0⟩ }, true)
    | d => ({ m with applied := ⟨d, if reverse then 0 else duty⟩ }, false)
  else (m, reverse)

/-- R30: the duty a channel would drive with in the coming period. -/
def State.driveDuty (s : State) (c : Channel) : Nat :=
  let p := s.lku.params
  appliedDuty (s.mdu.motor c).staged.duty p.vNom s.mdu.supply (p.ceiling.of c)

/-- R30, R31: the outputs of all four channels formed at a period start. -/
def formOutputs (s : State) : State :=
  let p := s.lku.params
  let m := s.mdu
  let cap := (m.capstan.atPeriodStart).formCapstan (s.driveDuty .capstan) m.capReverse
  { s with mdu := { m with
      drum := (m.drum.atPeriodStart).formDrum (s.driveDuty .drum)
      capstan := cap.1
      capReverse := cap.2
      reel := (m.reel.atPeriodStart).formBridge p.dzReel (s.driveDuty .reel)
      loading := (m.loading.atPeriodStart).formBridge p.dzLoading (s.driveDuty .loading) } }

/-- R32: a supply sample replaces the reading; SUPPLY_LOW is raised when a reading below 90 follows
one of 90 or more. -/
def sampleSupply (v : Nat) (s : State) : Handed :=
  ({ s with mdu := { s.mdu with supply := v } },
    if v < 90 ∧ 90 ≤ s.mdu.supply then [.raise .supplyLow false] else [])

/-- R30, R32: a PWM period starts 128 ticks after the one before (3.7): the outputs are formed with
the latest reading, then the sample of the period is taken. -/
def startPeriod (v : Nat) (s : State) : Handed :=
  let s1 := s.reaches (s.mdu.periodStart + 128)
  let s2 := { s1 with mdu := { s1.mdu with periodStart := s1.now, periodCounter := 0 } }
  sampleSupply v (formOutputs s2)

/-- R34: the comparator of a channel is watched while it is DRIVING and its output drives a
direction; a capstan in HOLD counts as driving one. -/
def Motor.watched (m : Motor) : Bool := m.state == .driving && !m.applied.idle

/-- R35: the entries of a trip list that are not more than 1 s older than the present moment. -/
def recentTrips (now : Tick) (trips : List Tick) : List Tick :=
  trips.filter (fun t => decide (now ≤ t + secs 1))

/-- R34, R35: a channel trips, by its policy. -/
def tripMotor (c : Channel) (s : State) : Handed :=
  let m := s.mdu.motor c
  if m.watched then
    let off : Motor := { m with applied := ⟨.off, 0⟩ }
    match s.lku.params.policy.of c with
    | .latch =>
        (s.withMotor c { off with state := .latchedOff }, [.raise (.overcurrent c) true])
    | .recover =>
        let recent := recentTrips s.now m.trips
        if recent.length < 7 then
          (setAlert c true
            (s.withMotor c
              { off with
                state := .recovering
                trips := recent ++ [s.now]
                recoveryTimer := s.after (millis 20) }), [])
        else
          (s.withMotor c { off with state := .latchedOff, trips := recent },
            [.raise (.recoveryExpired c) true])
  else (s, [])

/-- R35: the 20 ms of a recovery expire. -/
def endRecovery (c : Channel) (s : State) : State :=
  let m := s.mdu.motor c
  match m.recoveryTimer with
  | none => s
  | some due =>
      setAlert c false
        ((s.reaches due).withMotor c
          { m with
            state := if m.staged.idle then .off else .driving
            recoveries := satSucc 65535 m.recoveries
            recoveryTimer := none })

/-- R36: the release of one channel. -/
def Motor.release (m : Motor) : Motor :=
  if m.state = .latchedOff then { m with state := .off, trips := [] } else m

/-- R36: the STATUS clear releases every channel in LATCHED_OFF; TC is told. -/
def releaseMotors (s : State) : Handed :=
  ({ s with mdu := { s.mdu with
      drum := s.mdu.drum.release
      capstan := s.mdu.capstan.release
      reel := s.mdu.reel.release
      loading := s.mdu.loading.release } }, [.tcReleased])

end Sys2Proof.Machine
end

