-- ==== Sys2Proof/Machine/Directory.lean ====
section
/-!
DEFINITION. The cassette directory (4.4): its entries' ranges, how an entry is made, and how a moving,
clamped or dropped position acts on it.
-/
namespace Sys2Proof.Machine

/-- R82: two places within 60 SP frames of each other. -/
def near60 (a b : Nat) : Bool := decide (distance a b ≤ 60)

/-- R81: the range of an entry holds a place. `grown` is the present position for the entry in
progress; a FOUND entry has no range. -/
def DirEntry.covers (e : DirEntry) (grown : Option Nat) (x : Nat) : Bool :=
  match e.stop.or grown with
  | some stop => decide (e.start ≤ x) && decide (x < stop)
  | none => false

/-- R81: the present position as the end so far of an entry, when it is the one in progress. -/
def Tau.grownOf (t : Tau) (e : DirEntry) : Option Nat :=
  if t.inProgress = some e.start then t.position else none

/-- R81: an entry put at its place in start order. -/
def insertEntry (e : DirEntry) : List DirEntry → List DirEntry
  | [] => [e]
  | x :: xs => if e.start < x.start then e :: x :: xs else x :: insertEntry e xs

/-- The list without its first FOUND entry; `none` when it holds none. -/
def dropFound : List DirEntry → Option (List DirEntry)
  | [] => none
  | x :: xs => if x.origin = .found then some xs else (dropFound xs).map (x :: ·)

/-- R83: room for one more entry, by the removal of the lowest FOUND entry; `none` when there is no
room. -/
def makeRoom (l : List DirEntry) : Option (List DirEntry) :=
  if l.length < 16 then some l else dropFound l

/-- R82 step 3: an entry whose range contains `p` keeps nothing beyond it. -/
def DirEntry.trim (p : Nat) (e : DirEntry) : DirEntry :=
  if e.covers none p then { e with stop := some p } else e

/-- R85: the entries left when the recording that began at `start` has reached a place. -/
def growOver (start reached : Nat) (l : List DirEntry) : List DirEntry :=
  l.filter (fun e => decide (e.start ≤ start) || decide (reached ≤ e.start))

/-- R85: the directory follows a change of the position while an entry is in progress. -/
def Tau.follow (t : Tau) : Tau :=
  match t.inProgress, t.position with
  | some start, some p => { t with directory := growOver start p t.directory }
  | _, _ => t

/-- R85, R86: the entry in progress takes the end `p` and is no longer in progress. -/
def Tau.closeEntry (t : Tau) : Tau :=
  match t.inProgress, t.position with
  | some start, some p =>
      { t with
        directory := t.directory.map (fun e => if e.start = start then { e with stop := some p } else e)
        inProgress := none }
  | _, _ => t

/-- R85: a clamp of the position to `total` acts on every entry; the answer says whether the entry in
progress went with it and was a timer's. -/
def Tau.clampEntries (t : Tau) (total : Nat) : Tau × Bool :=
  let kept := t.directory.filter (fun e => decide (e.start ≤ total))
  let lost := t.directory.filter (fun e => decide (total < e.start))
  let gone := lost.any (fun e => decide (t.inProgress = some e.start))
  ({ t with
      directory := kept.map (fun e => { e with stop := e.stop.map (fun x => min x total) })
      inProgress := if gone then none else t.inProgress },
    lost.any (fun e => decide (t.inProgress = some e.start) && e.origin == .timer))

/-- R81: the directory emptied, with the entry in progress and the timer details. -/
def Tau.emptyDirectory (t : Tau) : Tau :=
  { t with directory := [], inProgress := none, details := none }

/-- R82: the fields of a manual recording's entry come from the record source and the tuned
preset. -/
def manualSource (s : State) : Option Source :=
  if s.tnu.external then some .external
  else match s.tnu.source with
    | .preset p =>
        if (s.tnu.presets.getD (p - 1) none).isSome then some (.preset p) else none
    | _ => none

/-- R82 step 5: the entry of a recording that starts at `p`. -/
def recordingEntry (p : Nat) (s : State) : DirEntry :=
  match s.owner with
  | .timer =>
      { start := p, stop := none, speed := some s.tc.recSpeed, origin := .timer
        source := s.tau.details.bind Details.source
        label := s.tau.details.bind Details.label
        slot := s.tau.details.bind Details.slot }
  | .user =>
      { start := p, stop := none, speed := some s.tc.recSpeed, origin := .manual
        source := manualSource s, label := none, slot := none }

/-- R82 steps 2 and 3: the entries near the place removed, and those whose range contains it trimmed. -/
def clearPlace (p : Nat) (s : State) : State :=
  let cleared := s.tau.directory.filter (fun e => !near60 e.start p)
  noted .tape s { s with tau := { s.tau with directory := cleared.map (DirEntry.trim p) } }

/-- R82, R83: the entry of a recording that opens now; the answer says whether one was made. R87: each
change of the number of entries asks for a TAPE report. -/
def enterRecording (s : State) : State × Bool :=
  match s.tau.position with
  | none => (s, false)
  | some p =>
      let s1 := clearPlace p s
      match makeRoom s1.tau.directory with
      | none => (latch .directoryFull s1, false)
      | some room =>
          (want .tape
            { s1 with tau := { s1.tau with
                directory := insertEntry (recordingEntry p s) room
                inProgress := some p } }, true)

/-- R84: the FOUND entry of a cue mark detected at a place. R83, R87: an entry that takes another's room
changes the number of entries twice. -/
def enterFound (p : Nat) (s : State) : State :=
  let l := s.tau.directory
  if l.any (fun e => near60 e.start p) || l.any (fun e => e.covers (s.tau.grownOf e) p) then s
  else
    match makeRoom l with
    | none => latch .directoryFull s
    | some room =>
        let e : DirEntry :=
          { start := p, stop := none, speed := s.tau.record.bind Cassette.speed, origin := .found
            source := none, label := none, slot := none }
        want .tape { s with tau := { s.tau with directory := insertEntry e room } }

end Sys2Proof.Machine
end

