-- ==== Sys2Proof/Machine/Tape.lean ====
section
/-!
DEFINITION. The Tape Accounting Unit (chapter 3): the cassette record, the cassette table, the wraps
and their samples, classification, the position, the counter, the approach zone and the end warning.
-/
namespace Sys2Proof.Machine

/-! ### Zone and end warning (3.8) -/

/-- R67: the approach zone. -/
def Tau.zoneNow (t : Tau) : Zone :=
  match t.classEntry, t.position with
  | some e, some p => if p ≤ 1800 ∨ e.total ≤ p + 1800 then .inside else .outside
  | _, _ => .none

/-- R68: the end-warning state, from the state before, the remaining time at the warning speed and
END_WARN. -/
def endWarning (nearBefore : Bool) (rw : Option Nat) (endWarn : Nat) : Bool :=
  match rw with
  | none => false
  | some r => if nearBefore then decide (r < endWarn + 10) else decide (r < endWarn)

/-- R22: the drive of the reel channel in a wind state. -/
def windDrive (s : State) : Drive where
  mode := if s.tc.state = .windFwd then .fwd else .rev
  duty := if s.tau.zone = .inside then s.lku.params.approachDuty else s.lku.params.windDuty

/-- R22: in a wind state TC asks for the duty of the zone and the parameters as they stand. -/
def restageWind (s : State) : State :=
  if s.tc.state.isWind then stage .reel (windDrive s) s else s

/-- R67: the zone worked out again; TC is told of a change. -/
def refreshZone (s : State) : State :=
  if s.tau.zoneNow = s.tau.zone then s
  else restageWind (noted .tape s { s with tau := { s.tau with zone := s.tau.zoneNow } })

/-- R68: the end-warning state evaluated again; each change from CLEAR to NEAR raises
TAPE_END_NEAR. -/
def refreshEndWarning (s : State) : State :=
  let rw := s.tau.remaining.map (remainingTime s.field s.tau.warnSpeed)
  let near := endWarning s.tau.endNear rw s.lku.params.endWarn
  let s1 := noted .tape s { s with tau := { s.tau with endNear := near } }
  if near && !s.tau.endNear then latch .tapeEndNear s1 else s1

/-- R67, R68: what follows a change of the class, the position, the quality or the warning speed. -/
def refreshTape (s : State) : State := refreshEndWarning (refreshZone s)

/-! ### The record -/

/-- The record changed by `f`; nothing when there is no record. -/
def onRecord (f : Cassette → Cassette) (s : State) : State :=
  noted .tape s { s with tau := { s.tau with record := s.tau.record.map f } }

/-- R79, R80: a seek in SEEKING ends; counting becomes no. -/
def endSeek (r : SeekState) (s : State) : State :=
  if s.tau.seek.state = .seeking then
    want .tape
      { s with tau := { s.tau with seek := { s.tau.seek with state := r, counting := false } } }
  else s

/-- R49: the working state of the arithmetic at its fresh values. -/
def Tau.freshWork (t : Tau) : Tau :=
  { t with
    supplyRev := RevMeas.idle
    takeUpRev := RevMeas.idle
    ts := none
    tt := none
    takeUpFresh := false
    outliers := 0
    fgStep := 0
    warnSpeed := .sp
    endNear := false
    zone := .none }

/-- R49, R70, R79, R81: the record discarded, with the directory and a running seek. DEDUCED (log 74): where
there is no record, none is discarded and no TAPE report is asked for. -/
def discardRecord (s : State) : State :=
  let s1 := endSeek .cancelled s
  noted .tape s1 { s1 with tau := { s1.tau.freshWork.emptyDirectory with record := none } }

/-- R49, R70: a fresh cassette record, a record that still exists discarded first. -/
def freshRecord (s : State) : State :=
  let s1 := if s.tau.record.isSome then discardRecord s else s
  noted .tape s1
    { s1 with tau := { s1.tau.freshWork.emptyDirectory with record := some Cassette.fresh } }

/-- R49: TC hands the reading of the record-tab switch. -/
def setTab (present : Bool) (s : State) : State :=
  onRecord (fun r => { r with tab := if present then .yes else .no }) s

/-- R66: the record's speed. -/
def setTapeSpeed (v : Option Speed) (s : State) : State :=
  onRecord (fun r => { r with speed := v }) s

/-- R66: the warning speed, and what follows its change. -/
def setWarnSpeed (v : Speed) (s : State) : State :=
  refreshTape { s with tau := { s.tau with warnSpeed := v } }

/-- A present position with its quality, set together (3.1); the directory follows it. -/
def setPosition (p : Nat) (q : PosQuality) (s : State) : State :=
  let s1 := onRecord (fun r => { r with position := some p, quality := q }) s
  refreshTape (noted .tape s1 { s1 with tau := s1.tau.follow })

/-- A position dropped to NONE; an entry in progress first takes it as its end (R85). -/
def dropPosition (s : State) : State :=
  let s1 := { s with tau := s.tau.closeEntry }
  refreshTape (onRecord (fun r => { r with position := none, quality := .none }) s1)

/-! ### Classification (3.3) -/

/-- R55: the candidate among two, each with its distance; the earlier one on a tie. -/
def nearer (a b : Option (Nat × Nat)) : Option (Nat × Nat) :=
  match a, b with
  | none, b => b
  | a, none => a
  | some x, some y => if y.2 < x.2 then some y else some x

/-- R55: the index of the chosen entry for `k`, with its distance; `i` is the index of the first
entry of the list. -/
def chooseFrom (f : FieldSystem) (k : Nat) : Nat → List (Option CassEntry) → Option (Nat × Nat)
  | _, [] => none
  | i, e :: es =>
      let here :=
        match e with
        | some c =>
            if c.field = f ∧ distance k c.kNom ≤ c.tol then some (i, distance k c.kNom) else none
        | none => none
      nearer here (chooseFrom f k (i + 1) es)

/-- R55: the index of the entry chosen for `k`, or none. -/
def chooseEntry (f : FieldSystem) (k : Nat) (table : List (Option CassEntry)) : Option Nat :=
  (chooseFrom f k 0 table).map Prod.fst

/-- R55, R85: an EXACT position above the new class's TOTAL is clamped to it, and the directory with
it. -/
def clampPosition (total : Nat) (s : State) : Handed :=
  match s.tau.position with
  | some p =>
      if total < p then
        let c := s.tau.clampEntries total
        (onRecord (fun r => { r with position := some total }) (noted .tape s { s with tau := c.1 }),
          if c.2 then [.pgtUnindexed] else [])
      else (s, [])
  | none => (s, [])

/-- R55: classification with the record's K, when the class is not an index. -/
def classify (s : State) : Handed :=
  match s.tau.record with
  | none => (s, [])
  | some r =>
      match r.cls, r.k with
      | .index _, _ => (s, [])
      | _, none => (s, [])
      | _, some k =>
          match chooseEntry s.field k s.tau.table with
          | none => (refreshTape (onRecord (fun r => { r with cls := .unclassified }) s), [])
          | some i =>
              let s1 := onRecord (fun r => { r with cls := .index i, samples := [] }) s
              let s2 := { s1 with tau := { s1.tau with outliers := 0 } }
              let c := clampPosition ((s2.tau.entry i).elim 0 CassEntry.total) s2
              (refreshTape c.1, c.2)

/-- R50, R56: the class returns to UNKNOWN; an ESTIMATED position is dropped, an EXACT one kept. -/
def declassify (s : State) : State :=
  let s1 :=
    if (s.tau.record.map Cassette.quality) = some .estimated then dropPosition s else s
  let s2 := onRecord (fun r => { r with cls := .unknown, k := none, samples := [] }) s1
  refreshTape { s2 with tau := { s2.tau with outliers := 0 } }

/-- R54: the sample list with a new sample, the oldest of four removed first. -/
def joinSample (l : List Nat) (x : Nat) : List Nat :=
  (if l.length < 4 then l else l.drop (l.length - 3)) ++ [x]

/-- The greatest of a list, 0 for none. -/
def listMax (l : List Nat) : Nat := l.foldl max 0

/-- The least of a list; `top` for none. -/
def listMin (top : Nat) (l : List Nat) : Nat := l.foldl min top

/-- R54: the sum of the samples. -/
def listSum (l : List Nat) : Nat := l.foldl (· + ·) 0

/-- R54: the spread test on four samples: the accepted mean, or none. -/
def spreadTest (l : List Nat) : Option Nat :=
  let mean := listSum l / 4
  if listMax l - listMin (listMax l) l ≤ mean / 50 then some mean else none

/-- R54: a K sample handed to the sample list. -/
def gatherSample (x : Nat) (s : State) : Handed :=
  match s.tau.record with
  | none => (s, [])
  | some r =>
      let l := joinSample r.samples x
      if l.length < 4 then (onRecord (fun r => { r with samples := l }) s, [])
      else
        match spreadTest l with
        | none => (onRecord (fun r => { r with samples := l.drop 1 }) s, [])
        | some k => classify (onRecord (fun r => { r with samples := l, k := some k }) s)

/-- R56: a K sample handed to the class watch. -/
def watchSample (e : CassEntry) (x : Nat) (s : State) : State :=
  if 2 * e.tol < distance x e.kNom then
    if 4 ≤ s.tau.outliers + 1 then declassify s
    else { s with tau := { s.tau with outliers := s.tau.outliers + 1 } }
  else { s with tau := { s.tau with outliers := 0 } }

/-- R53 step 2: the K sample of a supply completion. -/
def kSample (r : Cassette) : Option Nat :=
  match r.ws, r.wt with
  | some a, some b => some (a ^ 2 + b ^ 2)
  | _, _ => none

/-- R53 step 3: the sample of a supply completion goes to the list or to the class watch. -/
def takeSample (s : State) : Handed :=
  if s.tau.takeUpFresh then
    let s1 := { s with tau := { s.tau with takeUpFresh := false } }
    match s1.tau.record.bind kSample with
    | none => (s1, [])
    | some x =>
        match s1.tau.classEntry with
        | some e => (watchSample e x s1, [])
        | none => gatherSample x s1
  else (s, [])

/-- R58: the estimated fix of a supply completion in a drive state, when it is due. -/
def estimatedFix (s : State) : State :=
  match s.tau.classEntry, s.tau.record with
  | some e, some r =>
      if r.quality = .none then
        match r.ws with
        | some w => setPosition (e.total - e.rem (w ^ 2)) .estimated s
        | none => s
      else s
  | _, _ => s

/-! ### Revolutions (R52, R60) -/

/-- R52: the wrap of a revolution of `c` FG pulses, in quarter SP frames. -/
def wrapOf (c : Nat) : Nat := min ((c + 1) / 3) 4095

/-- The revolution measurement of a reel. -/
def Tau.rev (t : Tau) : Reel → RevMeas
  | .supply => t.supplyRev
  | .takeUp => t.takeUpRev

/-- The state with the revolution measurement of one reel replaced. -/
def withRev (r : Reel) (m : RevMeas) (s : State) : State :=
  match r with
  | .supply => { s with tau := { s.tau with supplyRev := m } }
  | .takeUp => { s with tau := { s.tau with takeUpRev := m } }

/-- R52, R60: a reel pulse begins a revolution, is the first within it, or completes it; the answer
says whether it completed one. -/
def RevMeas.pulse (m : RevMeas) (now : Tick) : RevMeas × Bool :=
  if !m.measuring then (⟨true, 0, 0, now⟩, false)
  else if m.pulses = 0 then ({ m with pulses := 1 }, false)
  else (⟨true, 0, 0, now⟩, true)

/-- R52: an FG pulse counts in the revolution being measured. -/
def RevMeas.count (m : RevMeas) : RevMeas :=
  if m.measuring then { m with fg := satSucc 65535 m.fg } else m

/-- R52, R60: both revolution measurements set to not measuring. -/
def Tau.stopRevs (t : Tau) : Tau := { t with supplyRev := RevMeas.idle, takeUpRev := RevMeas.idle }

/-- R52, R53: a revolution of `c` FG pulses completes in a drive state. -/
def driveRevolution (r : Reel) (c : Nat) (s : State) : Handed :=
  match r with
  | .takeUp =>
      let s1 := onRecord (fun x => { x with wt := some (wrapOf c) }) s
      ({ s1 with tau := { s1.tau with takeUpFresh := true } }, [])
  | .supply =>
      let h := takeSample (onRecord (fun x => { x with ws := some (wrapOf c) }) s)
      (estimatedFix h.1, h.2)

/-- R60: the supply wrap square of a wind estimate; a free value when both periods are 0
(log 10). -/
def windSquare (k ts tt : Nat) : Nat :=
  if ts ^ 2 + tt ^ 2 = 0 then Config.windRatio k else k * ts ^ 2 / (ts ^ 2 + tt ^ 2)

/-- R59: the counter moved, saturating. -/
def moveCounter (d : Int) (r : Cassette) : Cassette :=
  { r with counter := clampInt (-1080000) 1080000 (r.counter + d) }

/-- R60: the wind estimate, when the class is known and T_t is present. -/
def windEstimate (s : State) : State :=
  match s.tau.classEntry, s.tau.record, s.tau.ts, s.tau.tt with
  | some e, some r, some ts, some tt =>
      let p := e.total - e.rem (windSquare (r.k.getD 0) ts tt)
      let s1 :=
        match r.position with
        | some old => onRecord (moveCounter ((p : Int) - old)) s
        | none => onRecord (fun x => { x with counterValid := false }) s
      setPosition p .estimated s1
  | _, _, _, _ => s

/-- R60: a revolution that began at `began` completes in a wind state. -/
def windRevolution (r : Reel) (began : Tick) (s : State) : State :=
  let period := measured (s.now - began)
  match r with
  | .takeUp => { s with tau := { s.tau with tt := some period } }
  | .supply => windEstimate { s with tau := { s.tau with ts := some period } }

/-- R61: a reel pulse of a wind while the class is not known. -/
def windUnmeasured (s : State) : State :=
  if s.tau.classEntry.isNone then
    onRecord (fun r => { r with counterValid := false })
      (if s.tau.position.isSome then dropPosition s else s)
  else s

/-- R52, R60, R61: a reel pulse as TAU takes it. -/
def tapeReelPulse (r : Reel) (s : State) : Handed :=
  let m := s.tau.rev r
  let p := m.pulse s.now
  if s.tc.state.isDrive then
    let s1 := withRev r p.1 s
    if p.2 then driveRevolution r m.fg s1 else (s1, [])
  else if s.tc.state.isWind then
    let s1 := withRev r p.1 s
    (windUnmeasured (if p.2 then windRevolution r m.began s1 else s1), [])
  else (s, [])

/-! ### FG counting (R59) and the tape-end fixes -/

/-- R77: the travel of a counting seek moved by one SP frame. -/
def Seek.move (k : Seek) (forward : Bool) : Seek :=
  if k.counting then
    { k with travel := clampInt (-1080000) 1080000 (if forward = k.reverse then k.travel - 1 else k.travel + 1) }
  else k

/-- R59: a position moved by one SP frame, within 0..TOTAL while the class is known. -/
def stepPosition (forward : Bool) (total : Option Nat) (p : Nat) : Nat :=
  let q := if forward then p + 1 else p - 1
  match total with
  | some t => min q t
  | none => q

/-- R59: the tape has moved one SP frame. -/
def stepFrame (forward : Bool) (s : State) : State :=
  let total := s.tau.classEntry.map CassEntry.total
  let s1 := onRecord (fun r =>
    moveCounter (if forward then 1 else -1)
      { r with position := r.position.map (stepPosition forward total) }) s
  let t := { s1.tau with seek := s1.tau.seek.move forward }
  refreshTape (noted .tape s1 { s1 with tau := t.follow })

/-- R59: an FG pulse while the settled cam code is C3. -/
def countFgStep (s : State) : State :=
  if s.tc.sensors.cam = .code .c3 then
    let n := if s.mdu.capReverse then s.tau.fgStep - 1 else s.tau.fgStep + 1
    if n = 12 then stepFrame true { s with tau := { s.tau with fgStep := 0 } }
    else if n = -12 then stepFrame false { s with tau := { s.tau with fgStep := 0 } }
    else { s with tau := { s.tau with fgStep := n } }
  else s

/-- R52: an FG pulse counts in both revolutions of a drive state. -/
def countFgRevs (s : State) : State :=
  if s.tc.state.isDrive then
    { s with tau := { s.tau with
        supplyRev := s.tau.supplyRev.count, takeUpRev := s.tau.takeUpRev.count } }
  else s

/-- R62: the BOT fix. -/
def botFix (s : State) : State :=
  setPosition 0 .exact { s with tau := { s.tau with fgStep := 0 } }

/-- R63: the EOT fix. -/
def eotFix (s : State) : State :=
  match s.tau.classEntry with
  | some e => setPosition e.total .exact { s with tau := { s.tau with fgStep := 0 } }
  | none => s

/-- R64: the counter zeroed. -/
def zeroCounter (s : State) : State :=
  onRecord (fun r => { r with counter := 0, counterValid := true }) s

/-! ### The cassette table (3.2) -/

/-- R50: an entry written, with what the write does to the record. -/
def writeEntry (i : Nat) (e : Option CassEntry) (s : State) : Handed :=
  let s1 := { s with tau := { s.tau with table := putAt s.tau.table i e } }
  match s.tau.record.map Cassette.cls with
  | some (.index j) => if j = i then (declassify s1, []) else (s1, [])
  | some .unclassified => classify s1
  | _ => (s1, [])

end Sys2Proof.Machine
end

