-- ==== Sys2Proof/Machine/Cue.lean ====
section
/-!
DEFINITION. The control track (4.1 to 4.3): the pulses written under the record gate, the reading of
the tape's pulses, the detection of cue marks, and the cue seek.
-/
namespace Sys2Proof.Machine

/-! ### Writing (4.1) -/

/-- R72: the high time of a short pulse. -/
def shortHigh (frame : Nat) : Nat := frame * 27 / 100

/-- R72: the high time of a long pulse. -/
def longHigh (frame : Nat) : Nat := frame * 60 / 100

/-- R72: the CTL pulse written at a reference frame pulse while the gate is on. -/
def writeCtl (s : State) : State :=
  if s.tc.gate then
    if s.tau.markCount = 0 then
      { s with tau := { s.tau with ctlHigh := some (shortHigh (framePeriod s.field)) } }
    else
      { s with tau := { s.tau with
          ctlHigh := some (longHigh (framePeriod s.field)), markCount := s.tau.markCount - 1 } }
  else s

/-- R72: the gate drops; writing stops and the mark count becomes 0. -/
def stopWriting (s : State) : State :=
  { s with tau := { s.tau with ctlHigh := none, markCount := 0 } }

/-- R73: the mark at the opening of a recording. DESIGN CHOICE (log 66): with CUE_ON_RECORD off, a mark that
is still being written as a recording is opened in RECORD (R195) is finished. -/
def markOpening (s : State) : State :=
  if s.lku.params.cueOnRecord then { s with tau := { s.tau with markCount := 48 } } else s

/-- R74: a mark asked for in RECORD. -/
def markHere (s : State) : State :=
  if s.tau.markCount = 0 then { s with tau := { s.tau with markCount := 48 } } else s

/-! ### Reading (4.2) -/

/-- R75: the window emptied and the latest rising edge made absent. -/
def clearWindow (s : State) : State :=
  { s with tau := { s.tau with window := [], edge := none } }

/-- R75: a pulse begun by `e`, of the given period, is long. -/
def CtlEdge.isLong (e : CtlEdge) (period : Nat) : Bool :=
  match e.high with
  | some h => decide (period * 45 < h * 100)
  | none => false

/-- R75: the window with a new entry, the oldest of 48 removed first. -/
def joinWindow (w : List WindowEntry) (x : WindowEntry) : List WindowEntry :=
  (if w.length < 48 then w else w.drop (w.length - 47)) ++ [x]

/-- R76: the long entries of the window, oldest first. -/
def longEntries (w : List WindowEntry) : List WindowEntry := w.filter WindowEntry.long

/-- R76: the entry of the mark: the oldest long one, the newest in SEARCH_REV. -/
def markEntry (reverse : Bool) (w : List WindowEntry) : Option WindowEntry :=
  if reverse then (longEntries w).getLast? else (longEntries w).head?

/-- R78: a detected mark, by its travel and its position, as a running cue seek takes it. -/
def seekMark (travel : Int) (pos : Option Nat) (s : State) : Handed :=
  let k := s.tau.seek
  if k.state = .seeking ∧ k.counting = true ∧ 60 < travel then
    let n := k.found + 1
    if n < k.count then
      (noted .tape s { s with tau := { s.tau with seek := { k with found := n } } }, [])
    else
      (noted .tape s { s with tau := { s.tau with
          seek := { k with state := .found, found := n, foundPos := pos, counting := false } } },
        [.tcGoal .play .seekFound])
  else (s, [])

/-- R76: a cue mark is detected when the window holds at least 32 long entries. -/
def detectMark (s : State) : Handed :=
  if (longEntries s.tau.window).length < 32 then (s, [])
  else
    match markEntry (s.tc.state == .searchRev) s.tau.window with
    | none => (s, [])
    | some m =>
        let s1 := match m.position with
          | some p => enterFound p s
          | none => s
        let h := seekMark m.travel m.position s1
        ({ h.1 with tau := { h.1.tau with window := [] } }, h.2)

/-- R75: a rising edge. -/
def risingEdge (s : State) : Handed :=
  let fresh : CtlEdge := ⟨s.now, none, s.tau.position, s.tau.seek.travel⟩
  match s.tau.edge with
  | none => ({ s with tau := { s.tau with edge := some fresh } }, [])
  | some e =>
      let x : WindowEntry := ⟨e.isLong (measured (s.now - e.time)), e.position, e.travel⟩
      detectMark
        { s with tau := { s.tau with window := joinWindow s.tau.window x, edge := some fresh } }

/-- R75: a falling edge. -/
def fallingEdge (s : State) : State :=
  match s.tau.edge with
  | none => s
  | some e =>
      { s with tau := { s.tau with edge := some { e with high := some (measured (s.now - e.time)) } } }

/-! ### The seek (4.3) -/

/-- R77, R80: the new seek begins as its target is taken. DESIGN CHOICE (log 79): in the search state itself the
window and the latest edge stand, with the travel noted at each pulse before. -/
def beginSeek (reverse : Bool) (count : Nat) (s : State) : State :=
  let there : Bool := s.tc.state == (if reverse then .searchRev else .searchFwd)
  want .tape { s with tau := { s.tau with seek := ⟨.seeking, reverse, count, 0, 0, there, none⟩ } }

/-- R77: counting begins, with travel 0, as the transport enters the seek's search state. -/
def seekEnters (t : TState) (s : State) : State :=
  let k := s.tau.seek
  if k.state = .seeking ∧ t = (if k.reverse then TState.searchRev else TState.searchFwd) then
    { s with tau := { s.tau with seek := { k with counting := true, travel := 0 } } }
  else s

end Sys2Proof.Machine
end

