-- ==== Sys2Proof/Machine/Servos.lean ====
section
/-!
DEFINITION. The Servo Unit (2.5 to 2.9): targets and the reference frame pulse, the speed and phase
loops of the drum and the capstan, and play speed identification.
-/
namespace Sys2Proof.Machine

/-! ### Targets (R38) -/

/-- R38: the four counts of a loop at 0 and its lock state UNLOCKED. -/
def ServoLoop.unlocked (l : ServoLoop) : ServoLoop :=
  { l with lock := .unlocked, inBand := 0, outBand := 0, phaseIn := 0, phaseOut := 0 }

/-- R38: a loop as a target of OFF leaves it; the integrator is kept. -/
def ServoLoop.stopped (l : ServoLoop) : ServoLoop :=
  { l.unlocked with lastPulse := none, phaseTerm := none }

/-- R40: a loop at the beginning of a run. -/
def ServoLoop.begun (now : Tick) (l : ServoLoop) : ServoLoop := { l.stopped with runStart := now }

/-- R45, R47: PHASE_LOCK drops to SPEED_LOCK with the phase counts reset (log 35). -/
def ServoLoop.dropPhase (l : ServoLoop) : ServoLoop :=
  if l.lock = .phaseLock then { l with lock := .speedLock, phaseIn := 0, phaseOut := 0 } else l

/-- R38: a change of the drum reference alone drops PHASE_LOCK to SPEED_LOCK and resets the phase counts,
whatever the lock state. -/
def ServoLoop.newReference (l : ServoLoop) : ServoLoop :=
  { l with
    lock := if l.lock = .phaseLock then .speedLock else l.lock
    phaseIn := 0
    phaseOut := 0 }

/-- R38: TC sets the drum's target. OFF takes effect at once, another target is staged. DESIGN CHOICE (log
70): OFF ends the generator's wait for a video frame pulse (R39). -/
def demandDrum (t : DrumTarget) (s : State) : State :=
  match t with
  | .off =>
      stage .drum ⟨.off, 0⟩
        (noted .line s { s with svu := { s.svu with
            drumTarget := .off, drumStaged := none, drum := s.svu.drum.stopped, refWait := false } })
  | .run r => { s with svu := { s.svu with drumStaged := some (.run r) } }

/-- R38: TC sets the capstan's target. -/
def demandCap (t : CapTarget) (s : State) : State :=
  match t with
  | .off =>
      stage .capstan ⟨.off, 0⟩
        { s with svu := { s.svu with
            capTarget := .off, capStaged := none, cap := s.svu.cap.stopped } }
  | t => { s with svu := { s.svu with capStaged := some t } }

/-- R41: a computed duty set to 0..the channel's ceiling. -/
def clampDuty (ceiling : Nat) (d : Int) : Nat := (clampInt 0 ceiling d).toNat

/-- R41: the duty staged before the first measurement of a run. -/
def ServoLoop.baseDuty (g : Gains) (ceiling : Nat) (l : ServoLoop) : Nat :=
  clampDuty ceiling ((g.base : Int) + l.integrator / 256)

/-- The capstan channel's mode for a target. -/
def CapTarget.mode : CapTarget → Mode
  | .off => .off
  | .hold => .hold
  | .run reverse _ _ => if reverse then .rev else .fwd

/-- R38: the drum's staged target becomes current. -/
def applyDrum (s : State) : State :=
  match s.svu.drumStaged with
  | none => s
  | some t =>
      let s1 := { s with svu := { s.svu with drumStaged := none, drumTarget := t } }
      match s.svu.drumTarget with
      | .off =>
          stage .drum
            ⟨.run, s.svu.drum.baseDuty s.lku.params.drumGains s.lku.params.ceiling.drum⟩
            (noted .line s1 { s1 with svu := { s1.svu with drum := s.svu.drum.begun s.now } })
      | old =>
          if t = old then s1
          else noted .line s1 { s1 with svu := { s1.svu with drum := s.svu.drum.newReference } }

/-- R38: the capstan's staged target becomes current. A run that begins from OFF or HOLD begins
afresh (log 13). -/
def applyCap (s : State) : State :=
  match s.svu.capStaged with
  | none => s
  | some t =>
      let s1 := { s with svu := { s.svu with capStaged := none, capTarget := t } }
      if t = s.svu.capTarget then s1
      else
        match t, s.svu.capTarget with
        | .run _ _ _, .run _ _ _ => { s1 with svu := { s1.svu with cap := s.svu.cap.unlocked } }
        | .run _ _ _, _ =>
            stage .capstan
              ⟨t.mode, s.svu.cap.baseDuty s.lku.params.capGains s.lku.params.ceiling.capstan⟩
              { s1 with svu := { s1.svu with cap := s.svu.cap.begun s.now } }
        | _, _ =>
            stage .capstan ⟨t.mode, 0⟩ { s1 with svu := { s1.svu with cap := s.svu.cap.stopped } }

/-! ### The reference frame pulse (R39) -/

/-- R48: a change of a lock state is handed to TC. -/
def locksHanded (before : Svu) (h : Handed) : Handed :=
  if h.1.svu.drum.lock = before.drum.lock ∧ h.1.svu.cap.lock = before.cap.lock then h
  else (h.1, .tcLocks :: h.2)

/-- R39: whether the drum's current target is the video reference. -/
def Svu.onVideo (v : Svu) : Bool := v.drumTarget == .run .video

/-- R39, R38, R168, R72: a reference frame pulse, `video` when a video frame pulse is it. -/
def refPulse (video : Bool) (s : State) : Handed :=
  let s1 := { s with svu := { s.svu with lastRef := s.now, genPeriod := framePeriod s.field } }
  let s2 := applyCap (applyDrum s1)
  let wait := s2.svu.onVideo && (video || !s.svu.onVideo)
  let s3 := { s2 with svu := { s2.svu with refWait := wait } }
  let s4 := noted .line s3 { s3 with lnu := { s3.lnu with applied := s3.lnu.staged } }
  locksHanded s.svu (writeCtl s4, [])

/-- R39: a pulse of the video frame pulse input; one that falls together with a reference frame
pulse restarts the generator only. -/
def videoPulse (s : State) : Handed :=
  if s.svu.onVideo then
    if s.svu.lastRef = s.now then ({ s with svu := { s.svu with refWait := true } }, [])
    else refPulse true s
  else (s, [])

/-- R39: the moment the internal generator is due: one frame period after the reference frame pulse
before, or 1.5 of them while it waits for a video frame pulse (log 26). -/
def Svu.genDue (v : Svu) : Tick := v.lastRef + (if v.refWait then v.genPeriod * 3 / 2 else v.genPeriod)

/-- R39: the internal generator gives its pulse. -/
def internalPulse (s : State) : Handed := refPulse false (s.reaches s.svu.genDue)

/-! ### Speed loops (2.6) -/

/-- R41 step 1: the integrator after an error `e`. -/
def integrate (ki : Nat) (i e : Int) : Int := clampInt (-8388607) 8388607 (i + ki * e)

/-- R41 steps 2 and 3: the duty of a measurement of error `e`. -/
def loopDuty (g : Gains) (ceiling : Nat) (i e : Int) (phase : Option Int) : Nat :=
  clampDuty ceiling ((g.base : Int) + (g.kp : Int) * e / 16 + i / 256 + phase.getD 0)

/-- R42: the speed lock after a measurement of error `e`. -/
def ServoLoop.speedLock (period : Nat) (e : Int) (l : ServoLoop) : ServoLoop :=
  match l.lock with
  | .unlocked =>
      let n := if e.natAbs ≤ period / 64 then l.inBand + 1 else 0
      if 16 ≤ n then { l.unlocked with lock := .speedLock } else { l with inBand := n }
  | .speedLock | .phaseLock =>
      let n := if period / 16 < e.natAbs then l.outBand + 1 else 0
      if 4 ≤ n then { l.unlocked with phaseTerm := none } else { l with outBand := n }

/-- R41, R42: a loop after a measurement of `m` ticks, and the duty it stages. -/
def ServoLoop.measure (period : Nat) (g : Gains) (ceiling m : Nat) (l : ServoLoop) :
    ServoLoop × Nat :=
  let e : Int := (m : Int) - period
  let i := integrate g.ki l.integrator e
  ({ l with integrator := i }.speedLock period e, loopDuty g ceiling i e l.phaseTerm)

/-- 2.6: the drum's target period. -/
def drumPeriod (s : State) : Nat := framePeriod s.field

/-- R44: the capstan's target period. -/
def capPeriodOf (f : FieldSystem) (k m : Nat) : Nat := roundDiv (1000000 * k) (frameRate f * 12 * m)

/-- R44: the capstan's present target period, while it runs. -/
def capPeriod (s : State) : Option Nat :=
  match s.svu.capTarget with
  | .run _ k m => some (capPeriodOf s.field k m)
  | _ => none

/-- R41: a drum measurement of `m` ticks at the present moment. -/
def measureDrum (m : Nat) (s : State) : State :=
  let r := s.svu.drum.measure (drumPeriod s) s.lku.params.drumGains s.lku.params.ceiling.drum m
  stage .drum ⟨.run, r.2⟩
    (noted .line s { s with svu := { s.svu with drum := { r.1 with lastPulse := some s.now } } })

/-- R41: a capstan measurement of `m` ticks at the present moment. -/
def measureCap (period m : Nat) (s : State) : State :=
  let r := s.svu.cap.measure period s.lku.params.capGains s.lku.params.ceiling.capstan m
  stage .capstan ⟨s.svu.capTarget.mode, r.2⟩
    { s with svu := { s.svu with cap := { r.1 with lastPulse := some s.now } } }

/-! ### Phase loops (2.7) -/

/-- R43: the lock rules of a phase error `p`. -/
def ServoLoop.phaseLock (period : Nat) (p : Int) (l : ServoLoop) : ServoLoop :=
  match l.lock with
  | .unlocked => l
  | .speedLock =>
      let n := if p.natAbs ≤ period / 64 then l.phaseIn + 1 else 0
      if 8 ≤ n then { l with lock := .phaseLock, phaseIn := 8 } else { l with phaseIn := n }
  | .phaseLock =>
      let n := if period / 16 < p.natAbs then l.phaseOut + 1 else 0
      if 4 ≤ n then { l with lock := .speedLock, phaseIn := 0, phaseOut := 0 }
      else { l with phaseOut := n }

/-- R43: a loop after a phase error `p`. -/
def ServoLoop.phase (period kph : Nat) (p : Int) (l : ServoLoop) : ServoLoop :=
  if l.lock = .unlocked then l
  else { l with phaseTerm := some ((kph : Int) * p / 16) }.phaseLock period p

/-- R43: the drum's phase loop at a PG pulse. -/
def phaseDrum (s : State) : State :=
  let period := drumPeriod s
  let p := phaseError ((s.now : Int) - s.svu.lastRef) period
  noted .line s { s with svu := { s.svu with drum := s.svu.drum.phase period s.lku.params.drumGains.kph p } }

/-- R45: the tracking offset in ticks. -/
def trackingOffset (tracking : Int) (frame : Nat) : Int := Int.tdiv (tracking * frame) 256

/-- R45: the capstan's phase loop at a CTL pulse. -/
def phaseCap (s : State) : State :=
  let frame := framePeriod s.field
  let d := (s.now : Int) - s.svu.lastRef - trackingOffset s.lku.params.tracking frame
  let p := phaseError d frame
  { s with svu := { s.svu with cap := s.svu.cap.phase frame s.lku.params.capGains.kph p } }

/-! ### The pulses -/

/-- R40, R43: a drum PG pulse. -/
def drumPulse (s : State) : Handed :=
  match s.svu.drumTarget with
  | .off => (s, [])
  | .run _ =>
      match s.svu.drum.lastPulse with
      | none =>
          ({ s with svu := { s.svu with drum := { s.svu.drum with lastPulse := some s.now } } }, [])
      | some t => locksHanded s.svu (phaseDrum (measureDrum (measured (s.now - t)) s), [])

/-- R40: a capstan FG pulse as SVU takes it. -/
def capstanPulse (s : State) : Handed :=
  match capPeriod s with
  | none => (s, [])
  | some period =>
      match s.svu.cap.lastPulse with
      | none =>
          ({ s with svu := { s.svu with cap := { s.svu.cap with lastPulse := some s.now } } }, [])
      | some t => locksHanded s.svu (measureCap period (measured (s.now - t)) s, [])

/-- R40: the moment from which a loop waits for its next measurement pulse. -/
def ServoLoop.waitFrom (l : ServoLoop) : Tick := l.lastPulse.getD l.runStart

/-- R40: the missing-pulse measurement of a loop. -/
def missingPulse (l : Loop) (s : State) : Handed :=
  match l with
  | .drum =>
      match s.svu.drumTarget with
      | .off => (s, [])
      | .run _ =>
          let start := s.svu.drum.waitFrom
          let s1 := s.reaches (start + 4 * drumPeriod s)
          locksHanded s.svu (measureDrum (measured (s1.now - start)) s1, [])
  | .capstan =>
      match capPeriod s with
      | none => (s, [])
      | some period =>
          let start := s.svu.cap.waitFrom
          let s1 := s.reaches (start + 4 * period)
          locksHanded s.svu (measureCap period (measured (s1.now - start)) s1, [])

/-! ### Play speed identification (2.8) -/

/-- R46: the speed factor of a mean period `p`; a free value when it is 0 (log 9). -/
def identFactor (f : FieldSystem) (p : Nat) : Nat :=
  let ratio := if p = 0 then Config.identRatio (framePeriod f) else roundDiv (framePeriod f) p
  max 1 (min (match f with | .f60 => 3 | .f50 => 2) ratio)

/-- R46: the entry to PLAY begins identification and the watchdog. -/
def beginIdent (s : State) : State :=
  { s with svu := { s.svu with ident := .running none 0 0, watchdog := s.after (secs 1) } }

/-- R45, R47: what leaving PLAY does to SVU. DESIGN CHOICE (log 72): on the way to STILL the capstan shows
SPEED_LOCK until HOLD becomes current and makes it UNLOCKED. -/
def leavePlay (s : State) : State :=
  { s with svu := { s.svu with
      ident := .idle
      watchdog := none
      cap := { s.svu.cap.dropPhase with phaseTerm := none } } }

/-- R46: a CTL period of `t` ticks while `n` periods of sum `sum` are held. -/
def identPeriod (n sum t : Nat) (s : State) : State :=
  if n + 1 < 8 then { s with svu := { s.svu with ident := .running (some s.now) (n + 1) (sum + t) } }
  else
    let k := identFactor s.field ((sum + t) / 8)
    setTapeSpeed (some (speedOf k))
      { s with svu := { s.svu with ident := .complete, capStaged := some (.run false k 1) } }

/-- R45 to R47: a CTL pulse in PLAY as SVU takes it. DESIGN CHOICE (log 71): the pulse that completes
identification is not yet one of the phase loop. -/
def playCtl (s : State) : Handed :=
  let s1 := { s with svu := { s.svu with watchdog := s.after (secs 1) } }
  match s.svu.ident with
  | .idle => (s, [])
  | .running none n sum => ({ s1 with svu := { s1.svu with ident := .running (some s.now) n sum } }, [])
  | .running (some t) n sum => (identPeriod n sum (measured (s.now - t)) s1, [])
  | .blank => ({ s1 with svu := { s1.svu with ident := .running (some s.now) 0 0 } }, [])
  | .complete => locksHanded s.svu (phaseCap s1, [])

/-- R47: the CTL watchdog runs out. -/
def watchdogExpires (s : State) : Handed :=
  match s.svu.watchdog with
  | none => (s, [])
  | some due =>
      let s1 := s.reaches due
      let s2 := setTapeSpeed none { s1 with svu := { s1.svu with watchdog := none, ident := .blank } }
      if s.svu.ident = .complete then
        locksHanded s.svu
          ({ s2 with svu := { s2.svu with
              cap := { s2.svu.cap.dropPhase with phaseTerm := none }
              capStaged := some (.run false 1 1) } }, [])
      else (s2, [])

end Sys2Proof.Machine
end

