-- ==== Sys2Proof/Machine/Recording.lean ====
section
/-!
DEFINITION. The open recording and the record gate (1.6, 12.3): what TC hands TAU as a recording opens,
resumes and closes.
-/
namespace Sys2Proof.Machine

/-- R12, R82, R73, R66: a recording opens: TAU takes the recording start; the timer details are used
and dropped at the start of a timer recording. The answer says whether an entry was made. -/
def openRecording (s : State) : State × Bool :=
  let s1 := noted .line s { s with tc := { s.tc with openRec := true } }
  let s2 := setWarnSpeed s.tc.recSpeed (setTapeSpeed (some s.tc.recSpeed) s1)
  let e := enterRecording (markOpening s2)
  match s.owner with
  | .timer => ({ e.1 with tau := { e.1.tau with details := none } }, e.2)
  | .user => e

/-- R12, R66: a recording resumes; the speed of the request that led here is not applied. -/
def resumeRecording (s : State) : State :=
  setTapeSpeed (some s.tc.recSpeed) { s with tc := { s.tc with heldSpeed := none } }

/-- R195: the speed kept back by the recording that has closed becomes the recording speed, and that of a
lock wait (R13). DESIGN CHOICE (log 68): at the close, not as RECORD is entered. -/
def giveHeldSpeed (s : State) : State :=
  match s.tc.heldSpeed with
  | none => s
  | some v =>
      let s1 := noted .transport s { s with tc := { s.tc with recSpeed := v, heldSpeed := none } }
      if s.tc.lockWait then demandCap (.run false v.factor 1) s1 else s1

/-- R12, R86, R66, R195: an open recording closes; the entry in progress takes its end. -/
def closeRecording (s : State) : State :=
  if s.tc.openRec then
    giveHeldSpeed
      (setWarnSpeed .sp
        (noted .line s { s with tc := { s.tc with openRec := false }, tau := s.tau.closeEntry }))
  else s

/-- R15: the record gate turned on as RECORD is entered, when the tab is present. -/
def gateOn (s : State) : State :=
  if s.tau.record.map Cassette.tab = some .yes then
    noted .transport s { s with tc := { s.tc with gate := true } }
  else s

/-- R15, R72: the record gate turned off, and CTL writing with it. -/
def gateOff (s : State) : State :=
  stopWriting (noted .transport s { s with tc := { s.tc with gate := false } })

end Sys2Proof.Machine
end

