-- ==== Sys2Proof/Machine/Transport.lean ====
section
/-!
DEFINITION. The Transport Controller (chapter 1): targets and paths, the entry to a state, requests and
their checks, the sensors, the limits, the faults and the start-up procedure.
-/
namespace Sys2Proof.Machine

/-! ### Targets (R4) and moves (R5) -/

/-- R4: a level's place in the order C0 < C1 < C2 < C3. -/
def levelRank : Level → Nat
  | .c0 => 0
  | .c1 => 1
  | .c2 => 2
  | .c3 => 3

/-- R4, R16: the states at C2 or C3, and THREADING, ENGAGING and DISENGAGING. -/
def TState.threaded (t : TState) : Bool :=
  match t with
  | .threading | .engaging | .disengaging | .threadedStop | .recordPause | .play | .still
  | .record | .searchFwd | .searchRev => true
  | _ => false

/-- R4: the destination of a target taken in a state. -/
def destOf (t : Target) (now : TState) : TState :=
  match t with
  | .eject => .empty
  | .unthread => .unthreadedStop
  | .windFwd => .windFwd
  | .windRev => .windRev
  | .stop => if now.threaded then .threadedStop else .unthreadedStop
  | .recordPause => .recordPause
  | .play => .play
  | .still => .still
  | .record => .record
  | .searchFwd => .searchFwd
  | .searchRev => .searchRev

/-- R5: the move up from a level. -/
def moveUp : Level → TState
  | .c0 => .accepting
  | .c1 => .threading
  | .c2 | .c3 => .engaging

/-- R5: the move down from a level. -/
def moveDown : Level → TState
  | .c3 => .disengaging
  | .c2 => .unthreading
  | .c1 | .c0 => .ejecting

/-- R24: the move back to the from-code of a move. -/
def moveBack : TState → TState
  | .accepting => .ejecting
  | .ejecting => .accepting
  | .threading => .unthreading
  | .unthreading => .threading
  | .engaging => .disengaging
  | .disengaging => .engaging
  | t => t

/-- R2: a move drives the loading motor IN when it rises. -/
def movesIn (t : TState) : Bool :=
  match moveOf t with
  | some (a, b) => decide (levelRank a < levelRank b)
  | none => false

/-! ### The demands of a state (R3) -/

/-- R3: the drum's reference while the target stands as it does. -/
def goalRef (g : Option Goal) : DrumRef :=
  match g.map Goal.target with
  | some .record | some .recordPause => .video
  | _ => .internal

/-- R3: the drum's demand in a state. -/
def drumDemand (t : TState) (g : Option Goal) : DrumTarget :=
  match t with
  | .threading | .engaging | .disengaging => .run (goalRef g)
  | .threadedStop | .play | .still | .searchFwd | .searchRev => .run .internal
  | .recordPause | .record => .run .video
  | _ => .off

/-- R3, R44, R46: the capstan's demand in a state. -/
def capDemand (t : TState) (s : State) : CapTarget :=
  match t with
  | .play => .run false 1 1
  | .still => .hold
  | .record => .run false s.tc.recSpeed.factor 1
  | .searchFwd =>
      .run false ((s.tau.record.bind Cassette.speed).getD .sp).factor s.lku.params.searchMult
  | .searchRev =>
      .run true ((s.tau.record.bind Cassette.speed).getD .sp).factor s.lku.params.searchMult
  | _ => .off

/-- R3: the reel channel's demand in a state other than the wind states. -/
def reelDemand (t : TState) (s : State) : Drive :=
  match t with
  | .empty | .accepting | .ejecting | .threading | .unthreading => ⟨.off, 0⟩
  | .play | .record | .searchFwd => ⟨.fwd, s.lku.params.approachDuty⟩
  | .searchRev => ⟨.rev, s.lku.params.approachDuty⟩
  | .windFwd | .windRev => windDrive s
  | _ => ⟨.brake, 0⟩

/-- R3, R22, R182: APPROACH_DUTY has changed: the reel channel is asked for again in the states whose
demand it is part of. -/
def restageReel (s : State) : State :=
  if s.tc.state.isWind || s.tc.state.isDrive then stage .reel (reelDemand s.tc.state s) s else s

/-- R3, R2: the loading channel's demand in a state. -/
def loadingDemand (t : TState) : Drive :=
  if t.transient then ⟨if movesIn t then .moveIn else .moveOut, 1023⟩ else ⟨.off, 0⟩

/-- R3: the demands of a state that is being entered from `old`. A move that begins from a state that
was driving tape brakes the reel (R2, log 14). -/
def demandState (old new : TState) (s : State) : State :=
  let reel : Drive :=
    if new.transient && (old.isWind || old.isDrive) then ⟨.brake, 0⟩ else reelDemand new s
  stage .loading (loadingDemand new)
    (stage .reel reel (demandCap (capDemand new s) (demandDrum (drumDemand new s.tc.goal) s)))

/-! ### Entering a state -/

/-- What leaving a state does (R15, R12, R45, R52, R60, R75). -/
def leaveState (old new : TState) (s : State) : State :=
  let s1 := if old = .record then gateOff s else s
  let s2 := if new.keepsRecording then s1 else closeRecording s1
  let s3 := if old = .play then leavePlay s2 else s2
  let s4 := if old.isReading then clearWindow s3 else s3
  if old.isDrive || old.isWind then { s4 with tau := s4.tau.stopRevs } else s4

/-- The transport state with the timers that run in it (R2, R13, R14, R19, R20, R21, R23). The display speed
goes with it (R70). -/
def setState (new : TState) (s : State) : State :=
  noted .tape s <| noted .transport s { s with tc := { s.tc with
      state := new
      lockWait := false
      lockTimer := none
      recordLockTimer := none
      moveTimer := if new.transient then s.after (secs 4) else none
      idleTimer := if new = .threadedStop then s.after (secs 300) else none
      pauseTimer :=
        if new = .still ∨ (new = .recordPause ∧ s.owner = .user) then s.after (secs 300) else none
      stallTimer := (stallWatch new).bind (fun w => s.after w.2)
      haltedTimer := if new = .halted then s.after (secs 1) else none } }

/-- What entering a state has TAU and SVU begin (R46, R52, R60, R75, R77). -/
def beginState (new : TState) (s : State) : State :=
  let s1 :=
    if new.isDrive then { s with tau := { s.tau.stopRevs with takeUpFresh := false } }
    else if new.isWind then { s with tau := { s.tau.stopRevs with ts := none, tt := none } }
    else s
  let s2 := if new.isReading then clearWindow s1 else s1
  let s3 := if new = .play then beginIdent s2 else s2
  seekEnters new s3

/-- R12, R15: the entry to RECORD turns the gate on and opens or resumes the recording; the answer
carries, for an opening, whether an entry was made. -/
def beginRecord (s : State) : State × Option Bool :=
  let s1 := gateOn s
  if s1.tc.openRec then (resumeRecording s1, none)
  else
    let o := openRecording s1
    (o.1, some o.2)

/-- R28: a change of the transport state asks for its report, before what leaving the old state does
(log 31). -/
def announce (new : TState) (s : State) : State :=
  { s with lku := { s.lku with
      wanted := if s.tc.state = new then s.lku.wanted else askFor s.lku.wanted .transport } }

/-- R3: the transport enters a state. The change is handed to PGT at the moment it is made (R28). -/
def enterRaw (new : TState) (s : State) : Handed :=
  let old := s.tc.state
  let s1 :=
    beginState new (demandState old new (setState new (leaveState old new (announce new s))))
  if new = .record then
    let r := beginRecord s1
    (r.1, [.pgtTransport new r.2, .tcEnds, .tcLocks])
  else (s1, [.pgtTransport new none, .tcEnds])

/-- R26, R187: LOCKED_OUT and POWER_DOWN are left only by a power-fail stop, a reset or a start. -/
def TState.held (t : TState) : Bool := t == .lockedOut || t == .powerDown

/-- The transport enters a state, unless it is held in LOCKED_OUT or POWER_DOWN. -/
def enter (new : TState) (s : State) : Handed :=
  if s.tc.state.held then (s, []) else enterRaw new s

/-! ### Planning (R5) -/

/-- R4, R3: a target with its destination is set; the drum's demand in the moves that keep it running
follows the target. A speed kept back for RECORD goes with any other target. -/
def setGoal (g : Goal) (s : State) : State :=
  let s1 := noted .transport s { s with tc := { s.tc with
    goal := some g
    heldSpeed := if g.target = .record then s.tc.heldSpeed else none } }
  match s.tc.state with
  | .threading | .engaging | .disengaging => demandDrum (drumDemand s.tc.state (some g)) s1
  | _ => s1

/-- R5: the destination is entered, unless the transport is there already. -/
def goTo (dest : TState) (s : State) : Handed :=
  if s.tc.state = dest then (s, []) else enter dest s

/-- R2, R49: a cam move begins; as ACCEPTING begins, TAU makes a fresh cassette record. It may arrive at
once. -/
def startMove (mv : TState) (s : State) : Handed :=
  let h := enter mv s
  (if mv = .accepting then freshRecord h.1 else h.1, h.2 ++ [.tcArrive])

/-- R16: THREADING is not begun while the dew sensor is active. -/
def refuseThreading (s : State) : Handed :=
  let s1 := endSeek .cancelled (setGoal ⟨.unthread, .unthreadedStop⟩ (latch .dew s))
  let h := goTo .unthreadedStop s1
  (h.1, h.2 ++ [.pgtOwnTarget .other])

/-- R5, R16: the plan begins a move. -/
def beginMove (mv : TState) (s : State) : Handed :=
  if mv = .threading ∧ s.tc.sensors.dew = true then refuseThreading s else startMove mv s

/-- R5: the next step of the path from a stable level. -/
def planFrom (lv : Level) (s : State) : Handed :=
  match s.tc.goal with
  | none => (s, [])
  | some g =>
      match g.dest.level? with
      | none => (s, [])
      | some d =>
          if levelRank lv < levelRank d then beginMove (moveUp lv) s
          else if levelRank d < levelRank lv then beginMove (moveDown lv) s
          else if g.dest = .record then beginMove .disengaging s
          else goTo g.dest s

/-- R6, R7: TC acts on a target from where the transport stands. -/
def actOnGoal (s : State) : Handed :=
  if s.tc.lockWait then
    if s.tc.goal.map Goal.target = some .record then
      (demandCap (.run false s.tc.recSpeed.factor 1) s, [])
    else planFrom .c3 s
  else
    match s.tc.state.level? with
    | none => (s, [])
    | some lv =>
        if s.tc.goal.map Goal.dest = some s.tc.state then (s, []) else planFrom lv s

/-- TC sets a target by its own rules; PGT is told after TC has acted (R158, log 31). -/
def ownGoal (t : Target) (cause : OwnCause) (s : State) : Handed :=
  let s1 := setGoal ⟨t, destOf t s.tc.state⟩ s
  let h := actOnGoal (if cause = .seekFound then s1 else endSeek .cancelled s1)
  (h.1, h.2 ++ [.pgtOwnTarget cause])

/-! ### Requests (1.4) -/

/-- A channel is in LATCHED_OFF. -/
def latchedOff (c : Channel) (s : State) : Bool := (s.mdu.motor c).state == .latchedOff

/-- R8: the path from where the transport stands to a destination includes a cam move. -/
def pathMoves (dest : TState) (s : State) : Bool :=
  if s.tc.lockWait then dest.level? != some .c3
  else
    match s.tc.state.level? with
    | none => true
    | some lv => dest.level? != some lv || (dest == .record && s.tc.state != .record)

/-- R8, test 9: a channel the path needs is in LATCHED_OFF. -/
def neededLatched (dest : TState) (s : State) : Bool :=
  (latchedOff .loading s && pathMoves dest s)
    || (latchedOff .drum s && (dest.level? == some .c2 || dest.level? == some .c3))
    || (latchedOff .capstan s && dest.level? == some .c3)
    || (latchedOff .reel s && (dest.isWind || dest.isDrive))

/-- R8, test 4: the speed counts for RECORD and RECORD_PAUSE only. -/
def speedAllowed (f : FieldSystem) (t : Target) (v : Option Speed) : Bool :=
  match t with
  | .record | .recordPause =>
      match v with
      | none => false
      | some .ep => f == .f60
      | some _ => true
  | _ => true

/-- R8, test 8: the forward targets refused at the tape end. -/
def Target.forward (t : Target) : Bool :=
  t == .play || t == .record || t == .searchFwd || t == .windFwd

/-- R8: the tests in their order; the reason of the first that fails. -/
def checkRequest (q : TransportRequest) (s : State) : Option Reason :=
  let st := s.tc.state
  if st = .halted ∨ st = .powerDown then some .notAllowed
  else if st = .lockedOut ∧ (q.target ≠ some .eject ∨ s.tc.eject ≠ .notMade) then some .lockedOut
  else if q.origin ≠ .timer ∧ s.pgt.engaged = true then some .timerEngaged
  else
    match q.target with
    | none => some .badParameter
    | some t =>
        let dest := destOf t st
        if !speedAllowed s.field t q.speed then some .badParameter
        else if st = .empty ∧ s.tc.sensors.cassette = false then some .noCassette
        else if t = .record ∧ s.tau.record.map Cassette.tab = some .no then some .isProtected
        else if (dest.level? = some .c2 ∨ dest.level? = some .c3) ∧ s.tc.sensors.dew = true then
          some .dew
        else if t.forward = true ∧ s.tc.sensors.eot = true then some .atTapeEnd
        else if neededLatched dest s then some .motorLatched
        else none

/-- R12: the speeds a taken request sets; none while a recording is open. R195: outside RECORD the speed is
then kept back, for a recording that the request for RECORD may yet lead to. -/
def takeSpeed (q : TransportRequest) (s : State) : State :=
  match q.target, q.speed with
  | some .record, some v | some .recordPause, some v =>
      if s.tc.openRec then
        if s.tc.state = .record then s else { s with tc := { s.tc with heldSpeed := some v } }
      else
        match q.origin with
        | .deck => noted .transport s { s with tc := { s.tc with recSpeed := v, userSpeed := v } }
        | _ => noted .transport s { s with tc := { s.tc with recSpeed := v } }
  | _, _ => s

/-- R6, R20, R21: a request whose destination is the present state restarts the state's limit. -/
def restartLimits (s : State) : State :=
  { s with tc := { s.tc with
      idleTimer := if s.tc.state = .threadedStop then s.after (secs 300) else s.tc.idleTimer
      pauseTimer :=
        if s.tc.state = .still ∨ (s.tc.state = .recordPause ∧ s.owner = .user) then
          s.after (secs 300)
        else s.tc.pauseTimer } }

/-- R6, R195: a timer request with target RECORD taken in RECORD while no recording is open opens
one; PGT takes the opening as the entry to RECORD. -/
def reopenRecording (s : State) : Handed :=
  let o := openRecording (demandCap (.run false s.tc.recSpeed.factor 1) s)
  (o.1, [.pgtTransport .record (some o.2)])

/-- R26: the level below one, for the eject attempt. -/
def levelBelow : Level → Level
  | .c3 => .c2
  | .c2 => .c1
  | .c1 | .c0 => .c0

/-- R26: the eject attempt has reached C0: the loading motor stops and TAU discards the record. -/
def ejectDone (s : State) : State :=
  discardRecord
    (stage .loading ⟨.off, 0⟩
      { s with tc := { s.tc with eject := .made, ejectTo := none, moveTimer := none } })

/-- R26: a move of the eject attempt from a level, or from TRANSIT. -/
def ejectMove (c : Cam) (s : State) : State :=
  match c with
  | .code .c0 => ejectDone s
  | .code l =>
      stage .loading ⟨.moveOut, 1023⟩
        { s with tc := { s.tc with
            eject := .running, ejectTo := some (levelBelow l), moveTimer := s.after (secs 4) } }
  | .transit =>
      stage .loading ⟨.moveOut, 1023⟩
        { s with tc := { s.tc with
            eject := .running, ejectTo := none, moveTimer := s.after (secs 4) } }

/-- R26: the settled cam code during the eject attempt. -/
def ejectCam (s : State) : State :=
  match s.tc.sensors.cam with
  | .transit => s
  | .code .c0 => ejectDone s
  | .code l =>
      match s.tc.ejectTo with
      | none => if l = .c3 then s else ejectMove (.code l) s
      | some goal => if l = goal then ejectMove (.code l) s else s

/-- R79, R77: what a taken request does to the cue seek. -/
def takeSeek (q : TransportRequest) (s : State) : State :=
  let s1 := endSeek .cancelled s
  match q.origin with
  | .seek n => beginSeek (q.target == some .searchRev) n s1
  | _ => s1

/-- R6, R7, R26: TC takes a request that has passed the tests of R8. DESIGN CHOICE (log 53): an EJECT
taken in EMPTY replaces the target. DESIGN CHOICE (log 54): a user's RECORD taken in RECORD with no
recording open sets the recording speed and leaves the capstan as it runs. -/
def takeRequest (q : TransportRequest) (s : State) : Handed :=
  match q.target with
  | none => (s, [])
  | some t =>
      let g : Goal := ⟨t, destOf t s.tc.state⟩
      let s1 := takeSeek q (setGoal g (takeSpeed q s))
      if s.tc.state = .lockedOut then (ejectMove s.tc.sensors.cam s1, [])
      else if g.dest = s.tc.state then
        if q.origin = .timer ∧ g.dest = .record ∧ s.tc.openRec = false then reopenRecording s1
        else (restartLimits s1, [])
      else actOnGoal s1

/-- R9: a general line's request; a refusal latches EXT_REQUEST_REFUSED. -/
def lineRequest (t : Target) (s : State) : Handed :=
  let q : TransportRequest := ⟨some t, some s.tc.userSpeed, .line⟩
  match checkRequest q s with
  | some _ => (latch .extRequestRefused s, [])
  | none => (s, [.tcTake q])

/-! ### Arrivals (R2, R5, R10, R11, R13, R24, R27) -/

/-- R13: the lock wait begins. -/
def beginLockWait (s : State) : Handed :=
  (demandCap (.run false s.tc.recSpeed.factor 1)
    (noted .transport s
      { s with tc := { s.tc with lockWait := true, lockTimer := s.after (secs 3) } }), [.tcLocks])

/-- R10: the tab read as ACCEPTING arrives at C1; a target of RECORD with the tab absent becomes STOP,
and PGT is told once TC has gone on (log 31). -/
def readTab (s : State) : Handed :=
  let s1 := setTab s.tc.sensors.tab s
  if s.tc.goal.map Goal.target = some .record ∧ s.tc.sensors.tab = false then
    (endSeek .cancelled (setGoal ⟨.stop, .unthreadedStop⟩ s1), [.pgtOwnTarget .tab])
  else (s1, [])

/-- R10: ACCEPTING arrives at C1. -/
def arriveAccepting (s : State) : Handed :=
  let r := readTab s
  let h := planFrom .c1 r.1
  (h.1, h.2 ++ r.2)

/-- R11: EJECTING arrives at C0. -/
def arriveEjecting (s : State) : Handed :=
  let s1 := discardRecord s
  if s.tc.goal.map Goal.target = some .eject then goTo .empty s1
  else if s.tc.sensors.cassette then startMove .accepting s1
  else goTo .empty (noted .transport s1 { s1 with tc := { s1.tc with goal := none } })

/-- R5: TC goes on as a move has arrived at its to-code. -/
def arriveAt (mv : TState) (s : State) : Handed :=
  match mv with
  | .accepting => arriveAccepting s
  | .ejecting => arriveEjecting s
  | .engaging =>
      if s.tc.goal.map Goal.target = some .record then beginLockWait s else planFrom .c3 s
  | .threading | .disengaging => planFrom .c2 s
  | .unthreading => planFrom .c1 s
  | _ => (s, [])

/-- R24: the return move has arrived: what its arrival does to the record and the target (R10, R11),
then the repeated move. DESIGN CHOICE (log 52): no dew test comes before a repeated THREADING. -/
def arriveReturn (mv failed : TState) (s : State) : Handed :=
  let r : Handed :=
    match mv with
    | .accepting => readTab s
    | .ejecting => (discardRecord s, [])
    | _ => (s, [])
  let h := startMove failed { r.1 with tc := { r.1.tc with retry := .repeating } }
  (h.1, h.2 ++ r.2)

/-- R2: the arrival of a move: its timer stops and the loading channel goes off. -/
def stopMove (s : State) : State :=
  stage .loading ⟨.off, 0⟩ { s with tc := { s.tc with moveTimer := none, startUp := false } }

/-- R2: a running move arrives when the settled cam code equals its to-code. -/
def arrive (s : State) : Handed :=
  match moveOf s.tc.state with
  | none => (s, [])
  | some (_, goal) =>
      if s.tc.lockWait then (s, [])
      else if s.tc.sensors.cam = .code goal then
        let s1 := stopMove s
        match s.tc.retry, s.tc.failedMove with
        | .returning, some failed => arriveReturn s.tc.state failed s1
        | _, _ => arriveAt s.tc.state { s1 with tc := { s1.tc with retry := .none } }
      else if s.tc.startUp = true ∧ s.tc.sensors.cam = .code .c0 then
        let s1 := stopMove s
        startMove .accepting { s1 with tc := { s1.tc with retry := .none } }
      else (s, [])

/-! ### Sensors (1.7) -/

/-- R1, R2, R26, R27: a new settled cam code. -/
def camSettled (c : Cam) (s : State) : Handed :=
  let s1 :=
    noted .transport s { s with tc := { s.tc with sensors := { s.tc.sensors with cam := c } } }
  if s.tc.state = .lockedOut then
    (if s.tc.eject = .running then ejectCam s1 else s1, [])
  else if s.tc.startUp = true ∧ s.tc.state = .unthreading ∧ (c = .code .c2 ∨ c = .code .c3) then
    ({ s1 with tc := { s1.tc with moveTimer := s1.after (secs 4) } }, [.tcArrive])
  else (s1, [.tcArrive])

/-- R10: the cassette switch. -/
def cassetteSettled (present : Bool) (s : State) : Handed :=
  let s1 :=
    noted .transport s
      { s with tc := { s.tc with sensors := { s.tc.sensors with cassette := present } } }
  if s.tc.state = .empty ∧ present = true then ownGoal .stop .other s1 else (s1, [])

/-- R16: the dew sensor; in HALTED a change has no effect (R23). -/
def dewSettled (active : Bool) (s : State) : Handed :=
  let s1 :=
    noted .transport s { s with tc := { s.tc with sensors := { s.tc.sensors with dew := active } } }
  if active = false ∨ s.tc.state = .halted then (s1, [])
  else if s.tc.state.threaded then ownGoal .unthread .other (latch .dew s1)
  else (latch .dew s1, [])

/-- R1: the settled value of a sensor, as TC holds it. -/
def settledReading (r : SensorReading) (n : Sensors) : SensorReading :=
  match r with
  | .cam _ => .cam n.cam
  | .cassette _ => .cassette n.cassette
  | .tab _ => .tab n.tab
  | .dew _ => .dew n.dew
  | .bot _ => .bot n.bot
  | .eot _ => .eot n.eot

/-- R1: a sensor takes a new settled value; a value that stands already is no change. -/
def sensorTakes (r : SensorReading) (s : State) : Handed :=
  if settledReading r s.tc.sensors = r then (s, [])
  else
    match r with
    | .cam c => camSettled c s
    | .cassette p => cassetteSettled p s
    | .dew a => dewSettled a s
    | .tab p =>
        (noted .transport s { s with tc := { s.tc with sensors := { s.tc.sensors with tab := p } } }, [])
    | .bot a =>
        (noted .transport s { s with tc := { s.tc with sensors := { s.tc.sensors with bot := a } } },
          [.tcEnds])
    | .eot a =>
        (noted .transport s { s with tc := { s.tc with sensors := { s.tc.sensors with eot := a } } },
          [.tcEnds])

/-- R17: BOT is seen. -/
def seeBot (s : State) : Handed :=
  let s1 := stage .reel ⟨.brake, 0⟩ s
  let s2 := if s.tc.state = .searchRev then demandCap .off s1 else s1
  (endSeek .notFound (botFix s2), [.tcGoal .stop .bot])

/-- R18: EOT is seen; the fix precedes any recording close. -/
def seeEot (s : State) : Handed :=
  let s1 := stage .reel ⟨.brake, 0⟩ s
  let s2 := if s.tc.state = .windFwd then s1 else demandCap .off s1
  let t : Target :=
    if s.lku.params.autoRewind = true ∧ s.pgt.engaged = false then .windRev else .stop
  (endSeek .notFound (eotFix s2),
    [.tcGoal t .eot] ++ (if s.tc.state = .record then [.pgtEot] else []))

/-- R17, R18: BOT or EOT is seen in the states that move the tape toward it. -/
def seeEnds (s : State) : Handed :=
  let st := s.tc.state
  if (st = .windRev ∨ st = .searchRev) ∧ s.tc.sensors.bot = true then seeBot s
  else if (st = .play ∨ st = .record ∨ st = .searchFwd ∨ st = .windFwd) ∧ s.tc.sensors.eot = true then
    seeEot s
  else (s, [])

/-! ### Locks (R13, R14) -/

/-- R13: the drum in PHASE_LOCK and the capstan in SPEED_LOCK or PHASE_LOCK. -/
def locksHeld (s : State) : Bool :=
  s.svu.drum.lock == .phaseLock && s.svu.cap.lock != .unlocked

/-- R13, R14: TC sees the locks as they stand. -/
def watchLocks (s : State) : Handed :=
  if s.tc.lockWait then (if locksHeld s then enter .record s else (s, []))
  else if s.tc.state = .record then
    if locksHeld s then ({ s with tc := { s.tc with recordLockTimer := none } }, [])
    else if s.tc.recordLockTimer.isSome then (s, [])
    else ({ s with tc := { s.tc with recordLockTimer := s.after (secs 3) } }, [])
  else (s, [])

/-- R13: the lock timer of the lock wait runs out. -/
def lockWaitExpires (s : State) : Handed :=
  match s.tc.lockTimer with
  | none => (s, [])
  | some due =>
      let s1 := s.reaches due
      ({ s1 with tc := { s1.tc with lockTimer := none } },
        [.pgtServoUnlock, .raise .servoUnlock false, .tcLockWaitOver])

/-- R13: with SERVO_UNLOCK of class WARNING the lock wait returns to RECORD_PAUSE. -/
def lockWaitOver (s : State) : Handed :=
  if s.tc.lockWait then (s, [.tcGoal .recordPause .lockWait]) else (s, [])

/-- R14: the lock timer in RECORD runs out. -/
def recordLockExpires (s : State) : Handed :=
  match s.tc.recordLockTimer with
  | none => (s, [])
  | some due =>
      let s1 := s.reaches due
      ({ s1 with tc := { s1.tc with recordLockTimer := none } },
        [.pgtServoUnlock, .raise .servoUnlock false, .tcLockWatchOver])

/-- R14, R157: with SERVO_UNLOCK of class WARNING the lock watch leaves RECORD for RECORD_PAUSE. -/
def lockWatchOver (s : State) : Handed :=
  if s.tc.state = .record then (s, [.pgtLockWatch, .tcGoal .recordPause .lockWatch]) else (s, [])

/-! ### Faults (1.10) -/

/-- R23: the loading faults. -/
def Condition.isLoadingFault (k : Condition) : Bool :=
  match k with
  | .loadingTimeout => true
  | .overcurrent .loading => true
  | .recoveryExpired .loading => true
  | _ => false

/-- R23: the entry to HALTED; `servo` for a SERVO_UNLOCK. -/
def halt (servo : Bool) (s : State) : Handed :=
  let moving := if s.tc.state.transient && !s.tc.lockWait then some s.tc.state else none
  let s1 := { s with tc := { s.tc with interrupted := moving } }
  let h := enter .halted s1
  (stopAllMotors (endSeek .cancelled h.1), h.2 ++ [.pgtHalted servo])

/-- R26: the entry to LOCKED_OUT. -/
def lockOut (s : State) : Handed :=
  let s1 := { s with tc := { s.tc with
    retry := .none, startUp := false, decayTimer := none, eject := .notMade, ejectTo := none } }
  let h := enter .lockedOut s1
  let s2 := endSeek .cancelled (noted .transport h.1 { h.1 with tc := { h.1.tc with retryCount := 3 } })
  (stopAllMotors s2, .raise .lockout false :: h.2 ++ [.pgtHalted false])

/-- R24: a loading fault: the running move is the failed move, which the third fault records too. A
loading fault that comes with no move running has no move to repeat (log 15). -/
def loadingFault (s : State) : Handed :=
  let moving : Bool := s.tc.state.transient && !s.tc.lockWait
  let s1 := { s with tc := { s.tc with
    failedMove := if moving then some s.tc.state else s.tc.failedMove } }
  if 2 ≤ s.tc.retryCount then lockOut s1
  else
    halt false
      (noted .transport s1
        { s1 with tc := { s1.tc with
            retryCount := s.tc.retryCount + 1
            decayTimer := s.after (secs 60)
            retry := if moving then .pending else .none } })

/-- R26: the eject attempt fails; the loading motor stops where it is. -/
def ejectFails (s : State) : State :=
  stopMotor .loading
    { s with tc := { s.tc with eject := .made, ejectTo := none, moveTimer := none } }

/-- R23, R24, R26: TC takes a FAULT-class raise. -/
def takeFault (k : Condition) (tripped : Bool) (s : State) : Handed :=
  match s.tc.state with
  | .halted | .powerDown => (s, [])
  | .lockedOut =>
      (if s.tc.eject = .running ∧ k.isLoadingFault = true then ejectFails s else s, [])
  | _ =>
      if k.isLoadingFault then loadingFault s
      else if motorsRun s || tripped then
        halt (k == .servoUnlock) { s with tc := { s.tc with retry := .none, startUp := false } }
      else (s, [])

/-- R2: the move timer runs out. -/
def moveTimesOut (s : State) : Handed :=
  match s.tc.moveTimer with
  | none => (s, [])
  | some due =>
      let s1 := s.reaches due
      ({ s1 with tc := { s1.tc with moveTimer := none } }, [.raise .loadingTimeout false])

/-- R24, R27: the loading retry begins. DESIGN CHOICE (log 52): a THREADING that it begins, as the return
move or as the repeated move, is begun without the dew test of R16, which speaks of the plan. -/
def beginRetry (s : State) : Handed :=
  if s.tc.startUp then
    startMove .unthreading { s with tc := { s.tc with retry := .repeating } }
  else
    match s.tc.failedMove with
    | none => (s, [])
    | some failed =>
        if (moveOf failed).map (fun m => Cam.code m.1) = some s.tc.sensors.cam then
          startMove failed { s with tc := { s.tc with retry := .repeating } }
        else startMove (moveBack failed) { s with tc := { s.tc with retry := .returning } }

/-- R23: the move that the recovery from TRANSIT begins (log 15 where no move was interrupted). -/
def recoveryMove (eject : Bool) (interrupted : Option TState) : TState :=
  match interrupted with
  | some .engaging | some .disengaging => .disengaging
  | some .accepting | some .ejecting => if eject then .ejecting else .accepting
  | _ => .unthreading

/-- R23: the recovery from HALTED: UNTHREAD, or EJECT kept, planned from the cam position. -/
def recover (s : State) : Handed :=
  let eject : Bool := s.tc.goal.map Goal.target == some .eject
  let g : Goal := if eject then ⟨.eject, .empty⟩ else ⟨.unthread, .unthreadedStop⟩
  let s1 := noted .transport s { s with tc := { s.tc with goal := some g, startUp := false } }
  match s.tc.sensors.cam with
  | .code .c3 => startMove .disengaging s1
  | .code .c2 => startMove .unthreading s1
  | .code .c1 => if eject then startMove .ejecting s1 else goTo .unthreadedStop s1
  | .code .c0 => goTo .empty (discardRecord s1)
  | .transit => startMove (recoveryMove eject s.tc.interrupted) s1

/-- R23, R24: the HALTED timer runs out. -/
def haltedExpires (s : State) : Handed :=
  match s.tc.haltedTimer with
  | none => (s, [])
  | some due =>
      let s0 := s.reaches due
      let s1 := { s0 with tc := { s0.tc with haltedTimer := none } }
      if s.tc.retry = .pending then
        if latchedOff .loading s then (s1, []) else beginRetry s1
      else recover s1

/-- R24: the channels have been released; a retry that waits for the loading channel begins. -/
def afterRelease (s : State) : Handed :=
  if s.tc.state = .halted ∧ s.tc.haltedTimer = none ∧ s.tc.retry = .pending
      ∧ latchedOff .loading s = false then
    beginRetry s
  else (s, [])

/-- R24: the retry decay timer runs out; the count returns to 0. -/
def retryDecays (s : State) : State :=
  match s.tc.decayTimer with
  | none => s
  | some due =>
      let s1 := s.reaches due
      if s.tc.state = .lockedOut then s1
      else noted .transport s1 { s1 with tc := { s1.tc with decayTimer := none, retryCount := 0 } }

/-! ### Limits (R19 to R21) -/

/-- R19: a pulse of the watched reel restarts the stall timer. -/
def restartStall (r : Reel) (s : State) : State :=
  match stallWatch s.tc.state with
  | some (w, limit) =>
      if w = r then { s with tc := { s.tc with stallTimer := s.after limit } } else s
  | none => s

/-- R19: the stall timer runs out. -/
def stallExpires (s : State) : Handed :=
  match s.tc.stallTimer with
  | none => (s, [])
  | some due =>
      let s1 := s.reaches due
      ({ s1 with tc := { s1.tc with stallTimer := none } }, [.raise .reelStall false])

/-- R20: the idle timer runs out. -/
def idleExpires (s : State) : Handed :=
  match s.tc.idleTimer with
  | none => (s, [])
  | some due =>
      let s1 := s.reaches due
      ({ s1 with tc := { s1.tc with idleTimer := none } }, [.tcGoal .unthread .other])

/-- R21: the pause timer runs out. -/
def pauseExpires (s : State) : Handed :=
  match s.tc.pauseTimer with
  | none => (s, [])
  | some due =>
      let s1 := s.reaches due
      ({ s1 with tc := { s1.tc with pauseTimer := none } }, [.tcGoal .stop .other])

/-- R21: the pause limit of RECORD_PAUSE follows a change of the owner. -/
def ownerChanged (s : State) : State :=
  if s.tc.state = .recordPause then
    { s with tc := { s.tc with
        pauseTimer := if s.owner = .user then s.after (secs 300) else none } }
  else s

/-! ### Start-up (R27) -/

/-- R27: the start-up procedure, with the sensor values read afresh. -/
def startUpProcedure (s : State) : Handed :=
  let s0 := if s.tc.sensors.dew then latch .dew s else s
  if s.tc.sensors.cassette = false ∨ s.tc.sensors.cam = .code .c0 then
    (demandState .empty .empty s0, [])
  else
    let s1 := setTab s.tc.sensors.tab (freshRecord s0)
    if s.tc.sensors.cam = .code .c1 then enter .unthreadedStop s1
    else startMove .unthreading { s1 with tc := { s1.tc with startUp := true } }

end Sys2Proof.Machine
end

