-- ==== Sys2Proof/Machine/Occurrence.lean ====
section
/-!
DEFINITION. The moments of a timer record's occurrence (R136), the next occurrence (R137, R147), the
speed plan (R148) and the checks at claim (R143).
-/
namespace Sys2Proof.Machine

/-! ### Moments (R136) -/

/-- The seconds of a day. -/
def daySecs : Nat := 86400

/-- R136: the scheduled stop E. -/
def TimerRecord.stopMoment (r : TimerRecord) : Nat :=
  let stop := r.stopHour * 3600 + r.stopMinute * 60
  r.start / daySecs * daySecs + stop + (if stop < r.start % daySecs then daySecs else 0)

/-- R136: the duration D. -/
def TimerRecord.duration (r : TimerRecord) : Nat := r.stopMoment - r.start

/-- R136: a label in a year counted from 2000, when its day and month form a real date there. -/
def Label.inYear (l : Label) (y : Int) : Option Int :=
  if isDate y l.month l.day then
    some (dayNumber y l.month l.day * 86400 + l.hour * 3600 + l.minute * 60)
  else none

/-- R136: the nearer of two moments to `start`; which of two equally near ones is a free value
(log 11). -/
def nearerMoment (start : Nat) (a b : Option Int) : Option Int :=
  match a, b with
  | none, b => b
  | a, none => a
  | some x, some y =>
      let dx := (x - start).natAbs
      let dy := (y - start).natAbs
      if dx < dy then some x
      else if dy < dx then some y
      else if Config.labelYearLater start then some (max x y) else some (min x y)

/-- R136: the year of a calendar time, counted from 2000. -/
def yearOf (t : Nat) : Int := yearOfDay ((t / daySecs : Nat) : Int)

/-- R136: the label moment L of a label against a scheduled start. -/
def Label.moment (l : Label) (start : Nat) : Option Int :=
  let y := yearOf start
  nearerMoment start (nearerMoment start (l.inYear (y - 1)) (l.inYear y)) (l.inYear (y + 1))

/-- R136: the label moment of a record; its scheduled start where it has no label. -/
def TimerRecord.labelMoment (r : TimerRecord) : Int :=
  (r.label.bind (fun l => l.moment r.start)).getD r.start

/-- R136: the trigger T. -/
def TimerRecord.trigger (p : Params) (r : TimerRecord) : Int :=
  if r.labelControl then r.labelMoment - p.watchLead * 60 else (r.start : Int) - p.preRoll

/-- R136: the wait deadline W. -/
def TimerRecord.waitDeadline (p : Params) (r : TimerRecord) : Int :=
  r.labelMoment + p.labelWait * 60

/-- R136: the deadline. -/
def TimerRecord.deadline (p : Params) (r : TimerRecord) : Int :=
  if r.labelControl && !r.fellBack then r.waitDeadline p else r.stopMoment

/-- R136: the fallback check. -/
def TimerRecord.fallbackCheck (p : Params) (r : TimerRecord) : Int :=
  max (r.labelMoment - p.preRoll) ((r.watchOpening : Int) + 30)

/-- R136: the shifted stop. -/
def TimerRecord.shiftedStop (r : TimerRecord) : Int :=
  (r.stopMoment : Int) + ((r.actualStart.getD r.start : Nat) - (r.start : Int))

/-- R136: the hard stop. -/
def TimerRecord.hardStop (p : Params) (r : TimerRecord) : Nat :=
  r.actualStart.getD r.start + r.duration + p.overrun * 60

/-- R136: a moment is reached when the clock stands at it or later. -/
def State.hasReached (s : State) (moment : Int) : Bool := decide (moment ≤ (s.clock : Int))

/-! ### Occurrences (R137, R147) -/

/-- R137: a date `j` days after the present start date fits the repeat. -/
def TimerRecord.fits (r : TimerRecord) (j : Nat) : Bool :=
  match r.repeats with
  | .once => j == 0
  | .daily => true
  | .weekdays => decide (weekdayOf (r.start / daySecs + j) ≤ 4)
  | .weekly => j % 7 == 0

/-- R137: the label moved forward by a number of days. -/
def Label.shift (l : Label) (start j : Nat) : Label :=
  let m := (l.moment start).getD start
  let d := dateOfDay (m / 86400 + j)
  { l with day := d.2.2, month := d.2.1 }

/-- R137, R147: the occurrence `j` days on. -/
def TimerRecord.shift (r : TimerRecord) (j : Nat) : TimerRecord :=
  { r with start := r.start + j * daySecs, label := r.label.map (fun l => l.shift r.start j) }

/-- R137, R147: `j` days on is a date that serves: it fits the repeat, its trigger is later than the
clock and its scheduled stop lies within the calendar. -/
def TimerRecord.serves (p : Params) (clock : Nat) (r : TimerRecord) (j : Nat) : Bool :=
  let x := { r with fellBack := false }.shift j
  r.fits j && decide ((clock : Int) < x.trigger p) && decide (x.stopMoment ≤ calendarMax)

/-- The first of `fuel` days from `j` on that serves. -/
def firstServing (p : Params) (clock : Nat) (r : TimerRecord) : Nat → Nat → Option Nat
  | 0, _ => none
  | fuel + 1, j => if r.serves p clock j then some j else firstServing p clock r fuel (j + 1)

/-- R137, R147: the first day from `low` on that serves. A trigger lies less than 600 days from its
scheduled start, so no day before the one the search begins at has a trigger later than the clock, and
every day after its end has one. -/
def nextServing (p : Params) (clock : Nat) (low : Nat) (r : TimerRecord) : Option Nat :=
  let slack := if r.labelControl then 600 else 1
  firstServing p clock r (2 * slack + 14) (max low ((clock - r.start) / daySecs - slack))

/-- R147: the record moved to its next occurrence, or ENDED where there is none. -/
def TimerRecord.nextOccurrence (p : Params) (clock : Nat) (r : TimerRecord) : TimerRecord :=
  match nextServing p clock 1 r with
  | some j => { r.shift j with state := .armed, fellBack := false }
  | none => { r with state := .ended }

/-- R146 step 4: an ended record. -/
def TimerRecord.finish (p : Params) (clock : Nat) (r : TimerRecord) : TimerRecord :=
  if r.repeats = .once then { r with state := .ended } else r.nextOccurrence p clock

/-! ### The speed plan (R148) -/

/-- 3.4: the SP frames of a duration at a speed. -/
def spFrames (f : FieldSystem) (secs : Nat) (v : Speed) : Nat := ceilDiv (secs * frameRate f) v.factor

/-- R148, R183: a fixed speed as planned; EP is planned as LP in F50. -/
def plannedSpeed (f : FieldSystem) (v : Speed) : Speed :=
  match f, v with
  | .f50, .ep => .lp
  | _, v => v

/-- R148: the speed at which another record counts when the candidate is `v`. -/
def SpeedChoice.at (f : FieldSystem) (c : SpeedChoice) (v : Speed) : Speed :=
  match c with
  | .fixed x => plannedSpeed f x
  | .auto => v

/-- R148: another record counts in the plan: ARMED or DEFERRED, its trigger within 24 hours. -/
def TimerRecord.counts (p : Params) (clock : Nat) (r : TimerRecord) : Bool :=
  (r.state == .armed || r.state == .deferred) && decide (r.trigger p ≤ (clock : Int) + 86400)

/-- R148: the need of a candidate speed for the record of a slot. -/
def speedNeed (s : State) (slot : Nat) (r : TimerRecord) (v : Speed) : Nat :=
  let others := s.pgt.records.zipIdx.filter
    (fun x => x.2 + 1 != slot && x.1.counts s.lku.params s.clock)
  others.foldl (fun n x => n + spFrames s.field x.1.duration (x.1.speed.at s.field v))
    (spFrames s.field r.duration v)

/-- R148: the available length. -/
def availableLength (s : State) (remaining : Nat) : Int :=
  (remaining : Int) - (s.lku.params.endWarn * frameRate s.field : Nat)

/-- R148: the candidate speeds. -/
def candidateSpeeds : FieldSystem → List Speed
  | .f50 => [.sp, .lp]
  | .f60 => [.sp, .lp, .ep]

/-- R148: the chosen speed, whether it is UNPLANNED and whether it WILL_NOT_FIT. -/
def speedPlan (s : State) (slot : Nat) (r : TimerRecord) : Speed × Bool × Bool :=
  match r.speed with
  | .fixed v => (plannedSpeed s.field v, false, false)
  | .auto =>
      match s.tau.remaining with
      | none => (.sp, true, false)
      | some rem =>
          let fit := (candidateSpeeds s.field).find?
            (fun v => decide ((speedNeed s slot r v : Int) ≤ availableLength s rem))
          match fit with
          | some v => (v, false, false)
          | none => ((candidateSpeeds s.field).getLastD .sp, false, true)

/-! ### The checks at claim (R143) -/

/-- R143: the result of the first check that fails; none when the record may be granted the claim. -/
def claimCheck (s : State) (r : TimerRecord) : Option ResultCode :=
  let blank : Bool := match r.source with
    | .preset p => (s.tnu.preset p).isNone
    | .external => false
  if blank then some .noPreset
  else if s.tau.record = none then some .missedNoCassette
  else if s.tau.record.map Cassette.tab = some .no then some .missedProtected
  else if s.tc.sensors.eot = true ∨ s.tau.remaining = some 0 then some .missedTapeEnd
  else if s.tc.state = .lockedOut then some .failedMechanism
  else none

end Sys2Proof.Machine
end

