-- ==== Sys2Proof/Machine/Timer.lean ====
section
/-!
DEFINITION. The Programme Timer (chapter 8): the claim, the triggers, the course of a record through its
states, its endings, the clock jumps, and the power-fail stop and catch-up of chapter 11.
-/
namespace Sys2Proof.Machine

/-! ### The table -/

/-- A timer record by its slot, 1 to 16. -/
def State.slot (s : State) (slot : Nat) : TimerRecord := s.pgt.records.getD (slot - 1) TimerRecord.blank

/-- R160: the fields whose change asks for a TIMER report. -/
def TimerRecord.shown (r : TimerRecord) :
    RecState × Phase × Option ResultCode × Option Speed × RecFlags :=
  (r.state, r.phase, r.lastResult, r.chosen, r.flags)

/-- R160: a slot has changed. -/
def slotChanged (slot : Nat) (s : State) : State :=
  want .timer { s with pgt := { s.pgt with lastChanged := some slot } }

/-- A record replaced; a change that R160 names asks for a TIMER report. -/
def putRec (slot : Nat) (r : TimerRecord) (s : State) : State :=
  let s1 := { s with pgt := { s.pgt with records := putAt s.pgt.records (slot - 1) r } }
  if r.shown = (s.slot slot).shown then s1 else slotChanged slot s1

/-- 8.1: a record in an active state. -/
def RecState.active (t : RecState) : Bool :=
  t == .watching || t == .starting || t == .recording || t == .paused

/-- 8.1: a record in STARTING, RECORDING or PAUSED. -/
def RecState.driving (t : RecState) : Bool := t == .starting || t == .recording || t == .paused

/-- R142: the deck claim's holder changes. -/
def setClaim (c : Option Nat) (s : State) : State :=
  want .timer { s with pgt := { s.pgt with claim := c, again := none } }

/-- The claim holder with its record. -/
def State.holder (s : State) : Option (Nat × TimerRecord) := s.pgt.claim.map (fun n => (n, s.slot n))

/-- The claim holder, while it is in STARTING, RECORDING or PAUSED. -/
def State.driver (s : State) : Option (Nat × TimerRecord) :=
  match s.holder with
  | some (n, r) => if r.state.driving then some (n, r) else none
  | none => none

/-- Every slot. -/
def slots : List Nat := List.range' 1 16

/-! ### Endings (R146) -/

/-- R146: a record that never held the claim in this occurrence ends with a result. -/
def endIdle (slot : Nat) (res : ResultCode) (s : State) : State :=
  putRec slot
    ({ s.slot slot with lastResult := some res }.finish s.lku.params s.clock) s

/-- R146 step 1: the result and the actual stop; nothing that the record waited for is left. Its state stands
until step 4. -/
def TimerRecord.close (clock : Nat) (res : ResultCode) (r : TimerRecord) : TimerRecord :=
  { r with
    lastResult := some res
    actualStop := if r.state.active && r.actualStart.isSome then some clock else r.actualStop
    holdCount := none
    startCount := none
    unlockNoted := false
    retry := .none
    resuming := false
    recalled := false }

/-- R146, R195: a record ends; `ask` when it may request STOP, `serve` when R145 follows. -/
def endRec (slot : Nat) (res : ResultCode) (ask serve : Bool) (s : State) : Handed :=
  let r := s.slot slot
  let s1 := putRec slot (r.close s.clock res) { s with pgt := { s.pgt with again := none } }
  (s1,
    (if r.state.driving then [Task.tcClose] else [])
      ++ (if r.state.driving && ask then [Task.pgtStop] else [])
      ++ (if s.pgt.claim = some slot then [Task.pgtFree serve] else [])
      ++ [Task.pgtFinish slot])

/-- R146 step 2: the STOP of an ending. A refusal is not acted on. -/
def endingStop (s : State) : Handed :=
  let st := s.tc.state
  let q : TransportRequest := ⟨some .stop, none, .timer⟩
  if s.tc.goal.map Goal.target = some .stop ∨ st = .halted ∨ st = .lockedOut ∨ st = .powerDown then
    (s, [])
  else if checkRequest q s = none then (s, [.tcTake q])
  else (s, [])

/-- R146 step 3: the claim is freed. -/
def freeClaim (serve : Bool) (s : State) : Handed :=
  (setClaim none s, .tnuRelease :: if serve && s.pgt.engaged then [.pgtServe] else [])

/-- R146 step 4: ENDED, or the next occurrence. -/
def finishRec (slot : Nat) (s : State) : State :=
  putRec slot ((s.slot slot).finish s.lku.params s.clock) s

/-! ### Serving (R145) -/

/-- R145, first pass: a DEFERRED record whose deadline has been reached. -/
def conflictSlot (s : State) (slot : Nat) : State :=
  let r := s.slot slot
  if r.state = .deferred ∧ s.hasReached (r.deadline s.lku.params) = true then
    endIdle slot .missedConflict s
  else s

/-- A slot put into a list ordered by a moment, then by slot. -/
def insertSlot (x : Int × Nat) : List (Int × Nat) → List (Int × Nat)
  | [] => [x]
  | y :: ys =>
      if x.1 < y.1 ∨ (x.1 = y.1 ∧ x.2 ≤ y.2) then x :: y :: ys else y :: insertSlot x ys

/-- Slots in the order of a moment, the lowest slot first on a tie. -/
def orderSlots (key : Nat → Int) (l : List Nat) : List Nat :=
  (l.foldr (fun n acc => insertSlot (key n, n) acc) []).map Prod.snd

/-- R145, second pass: the first record that passes the checks; those before it end. -/
def serveFirst : List Nat → State → State × Option Nat
  | [], s => (s, none)
  | n :: ns, s =>
      match claimCheck s (s.slot n) with
      | some res => serveFirst ns (endIdle n res s)
      | none => (s, some n)

/-- R145: the DEFERRED records are served. DESIGN CHOICE (log 77): the first pass takes the slots in their order. -/
def serveDeferred (s : State) : Handed :=
  if s.pgt.engaged = true ∧ s.pgt.claim = none then
    let s1 := slots.foldl conflictSlot s
    let waiting := slots.filter (fun n => (s1.slot n).state == .deferred)
    let r := serveFirst (orderSlots (fun n => (s1.slot n).deferredTrigger) waiting) s1
    (r.1, match r.2 with
      | some n => [.pgtGrant n]
      | none => [])
  else (s, [])

/-! ### The grant (R142, R195) -/

/-- R142: a record as the grant of the claim leaves it. -/
def TimerRecord.granted (clock : Nat) (r : TimerRecord) : TimerRecord :=
  { r with
    state := if r.labelControl then .watching else .starting
    flags := RecFlags.clear
    chosen := none
    actualStart := none
    actualStop := none
    phase := .clock
    stopMode := .scheduled
    labelSeen := false
    watchOpening := clock
    holdCount := none
    startCount := none
    unlockNoted := false
    retry := .none
    resuming := false
    recalled := false
    fellBack := false }

/-- R142, R152, R195: the claim is granted. -/
def grantClaim (slot : Nat) (s : State) : Handed :=
  let r := s.slot slot
  (setClaim (some slot) (putRec slot (r.granted s.clock) s),
    [.tcClose, .tnuGrant r.source, if r.labelControl then .pgtWatch else .pgtStartClock slot])

/-! ### STARTING (R148, R149, R153) -/

/-- R148: a record enters STARTING in a phase, with its speed planned. -/
def enterStarting (slot : Nat) (ph : Phase) (s : State) : State :=
  let r := s.slot slot
  let plan := speedPlan s slot r
  putRec slot
    { r with
      state := .starting
      phase := ph
      chosen := some plan.1
      flags := { r.flags with
        unplanned := r.flags.unplanned || plan.2.1
        willNotFit := r.flags.willNotFit || plan.2.2 }
      holdCount := if ph = .hold then some 600 else none
      startCount := none
      recalled := false } s

/-- R149: STARTING in the phase CLOCK. -/
def startClock (slot : Nat) (s : State) : Handed :=
  if s.pgt.claim = some slot then
    let s1 := enterStarting slot .clock s
    if s.hasReached (s.slot slot).start then (s1, [.pgtFirstRecord slot])
    else (s1, [.pgtRequest .recordPause])
  else (s, [])

/-- R149: the first RECORD request of the stay in STARTING: the timer details go to TAU and the start
count begins. -/
def firstRecord (slot : Nat) (s : State) : Handed :=
  let r := s.slot slot
  if s.pgt.claim = some slot ∧ r.state = .starting then
    let s1 := putRec slot { r with startCount := some 60, unlockNoted := false } s
    ({ s1 with tau := { s1.tau with details := some ⟨some slot, some r.source, r.label⟩ } },
      [.pgtRequest .record])
  else (s, [])

/-- R153: in GO, RECORD is requested once the transport is in RECORD_PAUSE. -/
def goCheck (s : State) : Handed :=
  match s.holder with
  | some (n, r) =>
      if r.state = .starting ∧ r.phase = .go ∧ r.startCount = none ∧ s.tc.state = .recordPause then
        (s, [.pgtFirstRecord n])
      else (s, [])
  | none => (s, [])

/-- R153: the record returns to WATCHING. DESIGN CHOICE (log 60): a STOP of R153 refused NOT_ALLOWED is
not made again. -/
def toWatching (slot : Nat) (s : State) : State :=
  let r := s.slot slot
  if s.pgt.claim = some slot ∧ r.state = .starting then
    let s1 := putRec slot
      { r with state := .watching, phase := .clock, holdCount := none, startCount := none } s
    { s1 with pgt := { s1.pgt with again := none } }
  else s

/-- R148: PGT makes a timer request with the holder's chosen speed. -/
def timerRequest (t : Target) (s : State) : Handed :=
  match s.holder with
  | none => (s, [])
  | some (_, r) =>
      let s1 := { s with pgt := { s.pgt with again := none } }
      let q : TransportRequest := ⟨some t, r.chosen, .timer⟩
      match checkRequest q s1 with
      | some reason => (s1, [.pgtRefused t reason])
      | none => (s1, [.tcTake q])

/-- R158: the result of a refusal that ends the record. -/
def refusalResult (st : RecState) (why : Reason) : ResultCode :=
  match why with
  | .noCassette => .missedNoCassette
  | .isProtected => .missedProtected
  | .atTapeEnd => if st = .starting then .missedTapeEnd else .shortenedTapeEnd
  | _ => .failedMechanism

/-- R157, R158: a timer request is refused; the retry's own request fails the record (log 21). -/
def requestRefused (t : Target) (why : Reason) (s : State) : Handed :=
  match s.driver with
  | none => (s, [])
  | some (n, r) =>
      if r.retry = .made ∧ t = .record then (s, [.pgtEnd n .failedServo true true])
      else if why = .notAllowed then ({ s with pgt := { s.pgt with again := some t } }, [])
      else (s, [.pgtEnd n (refusalResult r.state why) true true])

/-! ### Label events (R152, R153, R155, R156) -/

/-- R152: a label value is ours. -/
def TimerRecord.ours (r : TimerRecord) (v : Option Label) : Bool := v.isSome && v == r.label

/-- R153: PGT requests STOP and the record returns to WATCHING. -/
def stopAndWatch (slot : Nat) : List Task := [.pgtRequest .stop, .pgtToWatching slot]

/-- R152: a label event in WATCHING. -/
def labelWatching (n : Nat) (r : TimerRecord) (v : Option Label) (st : LabelStatus) (s : State) :
    Handed :=
  let s1 := putRec n { r with labelSeen := true } s
  if r.ours v then
    if st = .running then (enterStarting n .go s1, [.pgtRequest .recordPause, .pgtGoCheck])
    else (enterStarting n .hold s1, [.pgtRequest .recordPause])
  else (s1, [])

/-- R153: a label event in STARTING. -/
def labelStarting (n : Nat) (r : TimerRecord) (v : Option Label) (st : LabelStatus) (s : State) :
    Handed :=
  match r.phase with
  | .clock => (s, [])
  | .hold =>
      if r.ours v then
        if st = .running then
          (putRec n { r with phase := .go, holdCount := none } s, [.pgtGoCheck])
        else (s, [])
      else (s, stopAndWatch n)
  | .go =>
      if r.ours v then
        if st = .running then (s, [])
        else
          (putRec n { r with phase := .hold, startCount := none, holdCount := some 600 } s,
            [.pgtRequest .recordPause])
      else (s, stopAndWatch n)

/-- R155: a LIVE label event in RECORDING or PAUSED with the stop mode LABEL. -/
def labelRecording (n : Nat) (r : TimerRecord) (v : Option Label) (st : LabelStatus) (s : State) :
    Handed :=
  if r.ours v then
    if st = .brk ∧ r.state = .recording then
      (putRec n { r with state := .paused, retry := .none, resuming := false } s,
        [.pgtRequest .recordPause])
    else if st = .running ∧ r.state = .paused then
      (putRec n { r with resuming := true } s, [.pgtRequest .record])
    else (s, [])
  else (s, [.pgtEnd n .complete true true])

/-- R156: a label loss in RECORDING or PAUSED with the stop mode LABEL. -/
def labelLoss (n : Nat) (r : TimerRecord) (s : State) : Handed :=
  let s1 := putRec n { r with stopMode := .shifted } s
  if s.hasReached r.shiftedStop then (s1, [.pgtEnd n .complete true true])
  else if r.state = .paused then
    (putRec n { r with stopMode := .shifted, resuming := true } s, [.pgtRequest .record])
  else (s1, [])

/-- R152, R153, R155, R156: the claim holder takes a label event. -/
def labelEvent (t : Tracker) (s : State) : Handed :=
  match s.holder with
  | none => (s, [])
  | some (n, r) =>
      match t with
      | .live _ v st =>
          match r.state with
          | .watching => labelWatching n r v st s
          | .starting => labelStarting n r v st s
          | .recording | .paused =>
              if r.stopMode = .label then labelRecording n r v st s else (s, [])
          | _ => (s, [])
      | _ =>
          if (r.state = .recording ∨ r.state = .paused) ∧ r.stopMode = .label then labelLoss n r s
          else (s, [])

/-! ### The transport as PGT sees it (R149, R150, R157, R158) -/

/-- R150: the record enters RECORDING as the transport enters RECORD. -/
def TimerRecord.begun (clock : Nat) (opened : Option Bool) (r : TimerRecord) : TimerRecord :=
  { r with
    state := .recording
    startCount := none
    holdCount := none
    recalled := false
    actualStart := some (r.actualStart.getD clock)
    stopMode := if r.labelControl && !r.fellBack then .label else .scheduled
    flags := { r.flags with unindexed := r.flags.unindexed || opened == some false } }

/-- R150, R155, R157: the transport has entered RECORD. -/
def recordEntered (opened : Option Bool) (n : Nat) (r : TimerRecord) (s : State) : State :=
  match r.state with
  | .starting => putRec n (r.begun s.clock opened) s
  | .recording => putRec n { r with retry := .none } s
  | .paused => putRec n { r with state := .recording, retry := .none, resuming := false } s
  | _ => s

/-- R149, R153, R157: the transport has entered RECORD_PAUSE. -/
def pauseEntered (n : Nat) (r : TimerRecord) (s : State) : Handed :=
  match r.state with
  | .starting =>
      if r.recalled then (s, [])
      else if r.startCount.isSome then (s, [.pgtRequest .record])
      else if r.phase = .go then (s, [.pgtFirstRecord n])
      else (s, [])
  | .recording =>
      match r.retry with
      | .waiting => (putRec n { r with retry := .made } s, [.pgtRequest .record])
      | .made => (s, [.pgtEnd n .failedServo true true])
      | .none => (s, [])
  | .paused =>
      if r.resuming then
        if r.retry = .made then (s, [.pgtEnd n .failedServo true true])
        else (putRec n { r with retry := .made } s, [.pgtRequest .record])
      else (s, [])
  | _ => (s, [])

/-- R158: a state from which a refused timer request is not made again. -/
def TState.stopped (t : TState) : Bool := t == .halted || t == .lockedOut || t == .powerDown

/-- R28: a change of the transport state as PGT takes it. -/
def transportChanged (new : TState) (opened : Option Bool) (s : State) : Handed :=
  match s.driver with
  | none => (s, [])
  | some (n, r) =>
      match s.pgt.again with
      | some t => if new.stopped then (s, []) else (s, [.pgtRequest t])
      | none =>
          match new with
          | .record => (recordEntered opened n r s, [])
          | .recordPause => pauseEntered n r s
          | _ => (s, [])

/-- R158: TC has set a target by its own rules. -/
def ownTargetSet (cause : OwnCause) (s : State) : Handed :=
  match s.driver with
  | none => (s, [])
  | some (n, _) =>
      match cause with
      | .lockWait | .lockWatch | .eot => (s, [])
      | .tab => (s, [.pgtEnd n .missedProtected true true])
      | .bot | .seekFound | .other => (s, [.pgtEnd n .failedMechanism true true])

/-- R158: the transport has entered HALTED or LOCKED_OUT. -/
def haltSeen (servo : Bool) (s : State) : Handed :=
  match s.driver with
  | none => (s, [])
  | some (n, _) => (s, [.pgtEnd n (if servo then .failedServo else .failedMechanism) true true])

/-- R158: EOT has been seen in RECORD. -/
def eotSeen (s : State) : Handed :=
  match s.driver with
  | none => (s, [])
  | some (n, _) => (s, [.pgtEnd n .shortenedTapeEnd true true])

/-- R149: TC has raised SERVO_UNLOCK while the start count runs. -/
def servoUnlocked (s : State) : State :=
  match s.holder with
  | some (n, r) =>
      if r.state = .starting ∧ r.startCount.isSome = true then putRec n { r with unlockNoted := true } s
      else s
  | none => s

/-- R157: TC leaves RECORD by its lock watch. -/
def lockWatched (s : State) : State :=
  match s.holder with
  | some (n, r) => if r.state = .recording then putRec n { r with retry := .waiting } s else s
  | none => s

/-- R150, R85: the recording has been left without its entry. -/
def leftUnindexed (s : State) : State :=
  match s.driver with
  | some (n, r) => putRec n { r with flags := { r.flags with unindexed := true } } s
  | none => s

/-! ### The passing second (R141) -/

/-- R149: the result of a start count that reaches 0. -/
def TimerRecord.startFails (r : TimerRecord) : ResultCode :=
  if r.unlockNoted then .failedServo else .failedMechanism

/-- R141 step 1: the counts of the claim holder; the start count stands while the record waits again for
its scheduled start (log 56). -/
def countSecond (s : State) : Handed :=
  match s.holder with
  | none => (s, [])
  | some (n, r) =>
      if r.state = .starting ∧ r.recalled = false then
        match r.startCount, r.holdCount with
        | some c, _ =>
            if c ≤ 1 then (s, [.pgtEnd n r.startFails true true])
            else (putRec n { r with startCount := some (c - 1) } s, [])
        | none, some c =>
            if c ≤ 1 then (putRec n { r with holdCount := none } s, stopAndWatch n)
            else (putRec n { r with holdCount := some (c - 1) } s, [])
        | none, none => (s, [])
      else (s, [])

/-- R154: the fallback of a record in WATCHING. -/
def fallBack (n : Nat) (r : TimerRecord) (s : State) : Handed :=
  if s.hasReached r.stopMoment then (s, [.pgtEnd n .missedLabel true true])
  else
    (putRec n { r with fellBack := true, flags := { r.flags with fallback := true } } s,
      [.pgtStartClock n])

/-- R151, R156: the stop moments of a record in RECORDING or PAUSED; the result of one reached. -/
def stopReached (s : State) (r : TimerRecord) : Option ResultCode :=
  let due : Bool := match r.stopMode with
    | .scheduled => s.hasReached r.stopMoment
    | .shifted => s.hasReached r.shiftedStop
    | .label => false
  if due then some .complete
  else if s.hasReached (r.hardStop s.lku.params) then some .completeLimit
  else none

/-- R149, R159: the scheduled start reached in STARTING in the phase CLOCK: the first RECORD request, or
RECORD again after a backward jump has called the record back. -/
def startReached (n : Nat) (r : TimerRecord) (s : State) : Handed :=
  if r.startCount.isNone then (s, [.pgtFirstRecord n])
  else if r.recalled then (putRec n { r with recalled := false } s, [.pgtRequest .record])
  else (s, [])

/-- R141 step 2, R159: the moments of the claim holder. `late` is the result of a deadline reached in
WATCHING, `expired` that of the scheduled stop reached in STARTING. DESIGN CHOICE (log 59): in WATCHING
the wait deadline is looked at before the fallback check. -/
def holderMoments (late expired : ResultCode) (n : Nat) (r : TimerRecord) (s : State) : Handed :=
  match r.state with
  | .watching =>
      if s.hasReached (r.waitDeadline s.lku.params) then (s, [.pgtEnd n late true true])
      else if s.hasReached (r.fallbackCheck s.lku.params) && !r.labelSeen then fallBack n r s
      else (s, [])
  | .starting =>
      if r.phase = .clock then
        if s.hasReached r.stopMoment then (s, [.pgtEnd n expired true true])
        else if s.hasReached r.start then startReached n r s
        else (s, [])
      else (s, [])
  | .recording | .paused =>
      match stopReached s r with
      | some res => (s, [.pgtEnd n res true true])
      | none => (s, [])
  | _ => (s, [])

/-- R141 step 2. -/
def secondMoments (s : State) : Handed :=
  match s.holder with
  | some (n, r) => holderMoments .missedLabel r.startFails n r s
  | none => (s, [])

/-- R144: a record made DEFERRED. DESIGN CHOICE (log 67): the trigger noted is worked out from the parameters
as they stand. -/
def deferRec (slot : Nat) (s : State) : State :=
  let r := s.slot slot
  putRec slot { r with state := .deferred, deferredTrigger := r.trigger s.lku.params } s

/-- R142 to R144: a trigger reached is served. -/
def serveTrigger (slot : Nat) (s : State) : Handed :=
  let r := s.slot slot
  let direct : Bool := match s.holder with
    | none => true
    | some (_, h) => h.state == .watching && !r.labelControl
  if direct then
    match claimCheck s r with
    | some res => (endIdle slot res s, [])
    | none =>
        match s.holder with
        | some (h, _) => (deferRec h s, [.pgtGrant slot])
        | none => (s, [.pgtGrant slot])
  else (deferRec slot s, [])

/-- R141 step 3: the trigger of one slot. -/
def slotTrigger (slot : Nat) (s : State) : Handed :=
  let r := s.slot slot
  if r.state = .armed ∧ s.hasReached (r.trigger s.lku.params) = true then
    if s.pgt.engaged then serveTrigger slot s else (endIdle slot .missedNotEngaged s, [])
  else (s, [])

/-! ### Jumps (R159) -/

/-- R159: a jump: the claim holder first, then the other records in slot order. -/
def jumpTasks (s : State) : List Task :=
  .pgtJumpHolder :: (slots.filter (fun n => s.pgt.claim != some n)).map Task.pgtJumpOther

/-- R159: a record in STARTING in the phase CLOCK that has requested RECORD stands before its scheduled
start again. -/
def calledBack (s : State) (r : TimerRecord) : Bool :=
  r.state == .starting && r.phase == .clock && r.startCount.isSome && !r.recalled
    && !s.hasReached r.start

/-- R159: the claim holder at a jump. A record called back waits in RECORD_PAUSE for its scheduled start
(log 56). -/
def jumpHolder (s : State) : Handed :=
  match s.holder with
  | some (n, r) =>
      if calledBack s r then (putRec n { r with recalled := true } s, [.pgtRequest .recordPause])
      else holderMoments .missedClock .missedClock n r s
  | none => (s, [])

/-- R159: another record at a jump. -/
def jumpOther (slot : Nat) (s : State) : Handed :=
  let r := s.slot slot
  let late := s.hasReached (r.deadline s.lku.params)
  match r.state with
  | .armed =>
      if s.pgt.engaged = true ∧ late = true ∧ s.hasReached (r.trigger s.lku.params) = true then
        (endIdle slot .missedClock s, [])
      else slotTrigger slot s
  | .deferred =>
      if late then (endIdle slot .missedClock s, [])
      else if s.hasReached r.deferredTrigger then (s, [])
      else (putRec slot { r with state := .armed } s, [])
  | _ => (s, [])

/-! ### Engaging (R139, R140) -/

/-- R139: the flag set, and the owner with it. -/
def engage (s : State) : State :=
  if s.pgt.engaged then s
  else want .timer (ownerChanged { s with pgt := { s.pgt with engaged := true } })

/-- R140 step 1: the active record ends; the other steps follow. -/
def release (s : State) : Handed :=
  if s.pgt.engaged then
    (s, (match s.holder with
      | some (n, _) => [.pgtEnd n .endedByRelease true false]
      | none => []) ++ [.pgtDisengage])
  else (s, [])

/-- R140 step 2: a DEFERRED record is missed. -/
def missDeferred (s : State) (slot : Nat) : State :=
  if (s.slot slot).state = .deferred then endIdle slot .missedNotEngaged s else s

/-- R140 steps 2 and 3. DESIGN CHOICE (log 77): step 2 takes the slots in their order. -/
def disengage (s : State) : State :=
  let s1 := slots.foldl missDeferred s
  want .timer (ownerChanged { s1 with pgt := { s1.pgt with engaged := false } })

/-! ### Mains failure, start and reset (R161, R189, R194) -/

/-- R161: a record with its working state (8.1) cleared. -/
def TimerRecord.cleared (r : TimerRecord) : TimerRecord :=
  { r with
    phase := .clock
    stopMode := .scheduled
    labelSeen := false
    watchOpening := 0
    holdCount := none
    startCount := none
    unlockNoted := false
    retry := .none
    resuming := false
    recalled := false
    deferredTrigger := 0 }

/-- R189: a record returned to ARMED, its working state cleared. DESIGN CHOICE (log 61): a fallback of
R154 is forgotten, so the wait deadline holds again. -/
def TimerRecord.rearmed (r : TimerRecord) : TimerRecord :=
  { r.cleared with state := .armed, fellBack := false }

/-- R189: one slot at the power-fail stop. -/
def powerFailSlot (s : State) (slot : Nat) : State :=
  let r := s.slot slot
  match r.state with
  | .recording | .paused =>
      putRec slot ((r.close s.clock .shortenedPower).finish s.lku.params s.clock) s
  | .watching | .starting | .deferred => putRec slot r.rearmed s
  | _ => s

/-- R189: PGT at the power-fail stop. -/
def powerFailTimer (s : State) : State :=
  releaseTuner (setClaim none (slots.foldl powerFailSlot s))

/-- R161: at a RESET DECK the active record ends, with no transport request and its working state
cleared, and the claim is freed. -/
def resetDeckTimer (s : State) : State :=
  match s.pgt.claim with
  | none => s
  | some n =>
      let r := s.slot n
      let s1 := putRec n ((r.close s.clock .endedByReset).finish s.lku.params s.clock).cleared s
      releaseTuner (setClaim none s1)

/-- R194, first pass: an ARMED record whose trigger and deadline have been reached. -/
def catchUpSlot (s : State) (slot : Nat) : State :=
  let r := s.slot slot
  if r.state = .armed ∧ s.hasReached (r.trigger s.lku.params) = true
      ∧ s.hasReached (r.deadline s.lku.params) = true then
    endIdle slot .missedPower s
  else s

/-- R194: the catch-up of a warm start. DESIGN CHOICE (log 77): the first pass takes the slots in their order. -/
def catchUp (s : State) : Handed :=
  if s.pgt.engaged then
    let s1 := slots.foldl catchUpSlot s
    (s1, (orderSlots (fun n => (s1.slot n).trigger s.lku.params) slots).map Task.pgtTrigger)
  else (s, slots.map Task.pgtTrigger)

end Sys2Proof.Machine
end

