-- ==== Sys2Proof/Machine/Lines.lean ====
section
/-!
DEFINITION. The Line Unit (chapter 9): the settled levels of the input lines and their events' edges,
the assignments, the request bits and the staged pattern.
-/
namespace Sys2Proof.Machine

/-- The state with the settled level of a line replaced. -/
def putSettled (i : Nat) (v : PinLevel) (s : State) : State :=
  noted .line s { s with lnu := { s.lnu with settled := putAt s.lnu.settled i v } }

/-- R165: an edge of an input event; `rise` when the event becomes active. -/
def inputEdge (e : LineEvent) (rise : Bool) (s : State) : Handed :=
  match e, rise with
  | .extRecordRequest, true => lineRequest .record s
  | .extRecordRequest, false => lineRequest .stop s
  | .extStopRequest, true => lineRequest .stop s
  | .counterZero, true => (zeroCounter s, [])
  | _, _ => (s, [])

/-- R164, R165: a line in IN takes a new settled level; a level that stands already is no change. -/
def lineSettles (i : Nat) (v : PinLevel) (s : State) : Handed :=
  let a := s.line i
  if a.output then (s, [])
  else if s.settledLevel i = v then (s, [])
  else inputEdge a.event (v == a.active) (putSettled i v s)

/-- R166, check 4: an event other than NULL stands on another line. -/
def eventTaken (i : Nat) (e : LineEvent) (s : State) : Bool :=
  e != .null && (List.range 8).any (fun j => j != i && (s.line j).event == e)

/-- The pin of a line as it reads now (log 7). -/
def readPin (i : Nat) (v : PinLevel) (s : State) : State :=
  { s with pins := { s.pins with lines := putAt s.pins.lines i v } }

/-- R164, R166: an assignment written; a line now in IN takes its settled level from the pin, which reads
`v`, with no edge. -/
def assignLine (i : Nat) (a : Assignment) (v : PinLevel) (s : State) : State :=
  let s1 := want .line { s with lnu := { s.lnu with lines := putAt s.lnu.lines i a } }
  if a.output then s1 else putSettled i v (readPin i v s1)

/-- R167: the request bit of an indicator. -/
def Bits4.put (b : Bits4) (i : Nat) (v : Bool) : Bits4 :=
  match i with
  | 0 => { b with a := v }
  | 1 => { b with b := v }
  | 2 => { b with c := v }
  | _ => { b with d := v }

end Sys2Proof.Machine
end

