-- ==== Sys2Proof/Machine/Agenda.lean ====
section
/-!
DEFINITION. The agenda (log 5): each hand-over is carried out by the block it is handed to, and what that
block hands on comes before what was waiting.
-/
namespace Sys2Proof.Machine

/-- One hand-over carried out. -/
def perform (t : Task) (s : State) : Handed :=
  match t with
  | .raise k tripped => raiseCondition k tripped s
  | .tcFault k tripped => takeFault k tripped s
  | .tcTake q => takeRequest q s
  | .tcGoal t cause => ownGoal t cause s
  | .tcArrive => arrive s
  | .tcEnds => seeEnds s
  | .tcLocks => watchLocks s
  | .tcLockWaitOver => lockWaitOver s
  | .tcLockWatchOver => lockWatchOver s
  | .tcReleased => afterRelease s
  | .tcClose => (closeRecording s, [])
  | .tnuGrant src => grantTuner src s
  | .tnuRelease => (releaseTuner s, [])
  | .pgtLabel tr => labelEvent tr s
  | .pgtTransport new opened => transportChanged new opened s
  | .pgtOwnTarget cause => ownTargetSet cause s
  | .pgtHalted servo => haltSeen servo s
  | .pgtServoUnlock => (servoUnlocked s, [])
  | .pgtLockWatch => (lockWatched s, [])
  | .pgtEot => eotSeen s
  | .pgtUnindexed => (leftUnindexed s, [])
  | .pgtRequest t => timerRequest t s
  | .pgtRefused t why => requestRefused t why s
  | .pgtEnd slot res ask serve => endRec slot res ask serve s
  | .pgtStop => endingStop s
  | .pgtFree serve => freeClaim serve s
  | .pgtServe => serveDeferred s
  | .pgtFinish slot => (finishRec slot s, [])
  | .pgtGrant slot => grantClaim slot s
  | .pgtStartClock slot => startClock slot s
  | .pgtFirstRecord slot => firstRecord slot s
  | .pgtWatch => labelEvent s.dlp.tracker s
  | .pgtGoCheck => goCheck s
  | .pgtToWatching slot => (toWatching slot s, [])
  | .pgtCounts => countSecond s
  | .pgtMoments => secondMoments s
  | .pgtTrigger slot => slotTrigger slot s
  | .pgtDisengage => (disengage s, [])
  | .pgtJump => (s, jumpTasks s)
  | .pgtJumpHolder => jumpHolder s
  | .pgtJumpOther slot => jumpOther slot s
  | .pgtCatchUp => catchUp s

/-- What is done about the reports as one hand-over leads from a state to another (log 6). -/
abbrev Reporting := State → State → State

/-- The agenda carried out, depth first, at most `fuel` hand-overs, the reports of each seen to as it is
made; `none` when some are left. -/
def runTasks (report : Reporting) : Nat → List Task → State → Option State
  | _, [], s => some s
  | 0, _ :: _, _ => none
  | fuel + 1, t :: ts, s =>
      runTasks report fuel ((perform t s).2 ++ ts) (report s (perform t s).1)

/-- The bound on the hand-overs of one command (log 5). -/
def taskBound : Nat := 4096

/-- A handler's hand-overs carried out. -/
def settleTasks (report : Reporting) (h : Handed) : Option State :=
  runTasks report taskBound h.2 h.1

end Sys2Proof.Machine
end

