-- ==== Sys2Proof/Machine/Operands.lean ====
section
/-!
DEFINITION. The operands of the requests: their parameter bytes read into typed values, absent where a
code lies outside its set, and the record images of 10.8 written out as bytes.
-/
namespace Sys2Proof.Machine

/-! ### Codes (10.8) -/

/-- The targets by their codes. -/
def targetOf : Nat → Option Target
  | 0 => some .eject
  | 1 => some .unthread
  | 2 => some .windFwd
  | 3 => some .windRev
  | 4 => some .stop
  | 5 => some .recordPause
  | 6 => some .play
  | 7 => some .still
  | 8 => some .record
  | 9 => some .searchFwd
  | 10 => some .searchRev
  | _ => none

/-- The speeds by their codes. -/
def speedCode : Nat → Option Speed
  | 0 => some .sp
  | 1 => some .lp
  | 2 => some .ep
  | _ => none

/-- A speed's code. -/
def codeOfSpeed : Speed → Nat
  | .sp => 0
  | .lp => 1
  | .ep => 2

/-- The field systems by their codes. -/
def fieldCode : Nat → Option FieldSystem
  | 0 => some .f50
  | 1 => some .f60
  | _ => none

/-- The speeds a record may ask for, by their codes. -/
def choiceCode : Nat → Option SpeedChoice
  | 3 => some .auto
  | n => (speedCode n).map SpeedChoice.fixed

/-- A record's speed choice as its code. -/
def codeOfChoice : SpeedChoice → Nat
  | .fixed v => codeOfSpeed v
  | .auto => 3

/-- The repeats by their codes. -/
def repeatCode : Nat → Option RepeatKind
  | 0 => some .once
  | 1 => some .daily
  | 2 => some .weekdays
  | 3 => some .weekly
  | _ => none

/-- A repeat's code. -/
def codeOfRepeat : RepeatKind → Nat
  | .once => 0
  | .daily => 1
  | .weekdays => 2
  | .weekly => 3

/-- A source byte: 0 for EXTERNAL, 1 to 60 for a preset. -/
def sourceCode (n : Nat) : Option Source :=
  if n = 0 then some .external else if n ≤ 60 then some (.preset n) else none

/-- A source as its byte. -/
def codeOfSource : Source → Nat
  | .external => 0
  | .preset p => p

/-- A record state's code. -/
def codeOfRecState : RecState → Nat
  | .empty => 0
  | .armed => 1
  | .deferred => 2
  | .watching => 3
  | .starting => 4
  | .recording => 5
  | .paused => 6
  | .ended => 7

/-- A result code's number, from 1, in the order of 8.1. -/
def codeOfResult : ResultCode → Nat
  | .complete => 1
  | .completeLimit => 2
  | .shortenedTapeEnd => 3
  | .shortenedPower => 4
  | .endedByRelease => 5
  | .endedByReset => 6
  | .missedNotEngaged => 7
  | .missedNoCassette => 8
  | .missedProtected => 9
  | .missedTapeEnd => 10
  | .missedConflict => 11
  | .missedLabel => 12
  | .missedPower => 13
  | .missedClock => 14
  | .failedMechanism => 15
  | .failedServo => 16
  | .noPreset => 17

/-- A phase's code. -/
def codeOfPhase : Phase → Nat
  | .clock => 0
  | .hold => 1
  | .go => 2

/-- A stop mode's code. -/
def codeOfStopMode : StopMode → Nat
  | .scheduled => 0
  | .label => 1
  | .shifted => 2

/-- An origin's code. -/
def codeOfOrigin : Origin → Nat
  | .timer => 0
  | .manual => 1
  | .found => 2

/-- The filter actions by their codes. -/
def actionOf : Nat → Option FilterAction
  | 0 => some .forwardDisplay
  | 1 => some .forwardSystem
  | 2 => some .drop
  | _ => none

/-- The events of the lines, in the order of their codes. -/
def lineEvents : List LineEvent :=
  [ .null, .recording, .playback, .cassetteIn, .tapeEndNear, .timerEngaged, .drumLocked, .bandLow,
    .bandHigh, .bandUhf, .tunerMute, .videoSourceExt, .deckFault, .indicatorA, .indicatorB,
    .indicatorC, .indicatorD, .framePattern0, .framePattern1, .extRecordRequest, .extStopRequest,
    .counterZero ]

/-- The active levels by their codes. -/
def levelCode : Nat → Option PinLevel
  | 0 => some .high
  | 1 => some .low
  | _ => none

/-! ### Operands of the requests -/

/-- CASSETTE_ENTRY_WRITE: the fields of a valid entry, from byte 2, within their ranges (3.2). DESIGN CHOICE
(log 73): any byte is a character of the name. -/
def entryOperand (p : List Byte) : Option CassEntry :=
  let kNom := numberAt p 7 4
  let tol := numberAt p 11 4
  let hub := numberAt p 15 2
  let length := numberAt p 17 2
  match fieldCode (byteAt p 6) with
  | none => none
  | some f =>
      if kNom ≤ 33538050 ∧ tol ≤ 1048575 ∧ 1 ≤ hub ∧ hub ≤ 4095 ∧ 1 ≤ length then
        some ⟨(p.drop 2).take 4, f, kNom, tol, hub, length⟩
      else none

/-- R93: one of the three choices for an optional field of PRESET_WRITE. -/
inductive Choice where
  | keep | set | absent
  deriving DecidableEq, Repr

/-- The choices by their codes. -/
def choiceOf : Nat → Option Choice
  | 0 => some .keep
  | 1 => some .set
  | 2 => some .absent
  | _ => none

/-- R93: an optional field after its choice. -/
def Choice.pick {α : Type} (c : Choice) (old : Option α) (new : α) : Option α :=
  match c with
  | .keep => old
  | .set => some new
  | .absent => none

/-- R93: the fields of PRESET_WRITE for the state STORED. -/
structure PresetFields where
  n : Nat
  fine : Int
  skip : Bool
  afc : Bool
  timeSource : Bool
  codeChoice : Choice
  code : Nat
  nameChoice : Choice
  name : List Byte
  deriving DecidableEq, Repr

/-- The preset image of a write for STORED; none where a byte lies outside its set (log 22). -/
def presetOperand (p : List Byte) : Option PresetFields :=
  match choiceOf (byteAt p 6 % 4), choiceOf (byteAt p 6 / 4 % 4) with
  | some c, some m =>
      let len := byteAt p 9
      if 8 < len ∨ (m = .set ∧ len = 0) then none
      else
        some ⟨numberAt p 2 2, signedAt p 4, bitAt p 5 0, bitAt p 5 1, bitAt p 5 2, c, numberAt p 7 2,
          m, (p.drop 10).take len⟩
  | _, _ => none

/-- R93: the fine offset brought into its range. -/
def clampFine (v : Int) : Int := clampInt (-16) 15 v

/-- R93: the entry a write for STORED makes of the entry held. -/
def PresetFields.over (x : PresetFields) (old : Option Preset) : Preset where
  n := x.n
  fine := clampFine x.fine
  skip := x.skip
  afc := x.afc
  timeSource := x.timeSource
  code := x.codeChoice.pick (old.bind Preset.code) x.code
  name := x.nameChoice.pick (old.bind Preset.name) x.name

/-- BAND_LIMITS_WRITE: the six limits. -/
def limitsOperand (p : List Byte) : BandTable :=
  ⟨⟨numberAt p 0 2, numberAt p 2 2⟩, ⟨numberAt p 4 2, numberAt p 6 2⟩,
    ⟨numberAt p 8 2, numberAt p 10 2⟩⟩

/-- R89, check 2: a limit within 256..32,767. -/
def limitAllowed (n : Nat) : Bool := decide (256 ≤ n) && decide (n ≤ 32767)

/-- R89, checks 2 and 3. -/
def BandTable.allowed (t : BandTable) : Bool :=
  t.limits.all (fun x => limitAllowed x.1)
    && decide (t.low.lo ≤ t.low.hi) && decide (t.high.lo ≤ t.high.hi) && decide (t.uhf.lo ≤ t.uhf.hi)
    && decide (t.low.hi < t.high.lo) && decide (t.high.hi < t.uhf.lo)

/-- FILTER_WRITE: the fields of a valid entry, from byte 2, when R112's checks 2 and 3 pass. -/
def filterOperand (p : List Byte) : Option FilterEntry :=
  let first := byteAt p 2
  let last := byteAt p 3
  let services := byteAt p 4
  match qualityOf (byteAt p 5), actionOf (byteAt p 6) with
  | some q, some a =>
      if 6 ≤ first ∧ first ≤ last ∧ last ≤ 22 ∧ 1 ≤ services ∧ services ≤ 15 then
        some ⟨first, last, bitAt p 4 0, bitAt p 4 1, bitAt p 4 2, bitAt p 4 3, q, a⟩
      else none
  | _, _ => none

/-- CLOCK_SET: the date and time. -/
def clockOperand (p : List Byte) : DateTime :=
  ⟨byteAt p 0, byteAt p 1, 2000 + byteAt p 2, byteAt p 3, byteAt p 4, byteAt p 5⟩

/-- RECORD_WRITE: the label given, when the flag says so. -/
def labelOperand (p : List Byte) : Option Label :=
  if bitAt p 10 1 then some ⟨byteAt p 11, byteAt p 12, byteAt p 13, byteAt p 14⟩ else none

/-- R137, check 3: a label's hour and minute within their sets. -/
def Label.timeAllowed (l : Label) : Bool := decide (l.hour ≤ 23) && decide (l.minute ≤ 59)

/-- RECORD_WRITE: the record of bytes 1 to 14, when check 3 of R137 passes (log 23). -/
def recordOperand (p : List Byte) : Option TimerRecord :=
  let start := numberAt p 2 4
  match sourceCode (byteAt p 1), repeatCode (byteAt p 8), choiceCode (byteAt p 9) with
  | some src, some rep, some spd =>
      if start ≤ calendarMax ∧ start % 60 = 0 ∧ byteAt p 6 ≤ 23 ∧ byteAt p 7 ≤ 59
          ∧ ((labelOperand p).map Label.timeAllowed).getD true = true then
        some { TimerRecord.blank with
          state := .armed
          labelControl := bitAt p 10 0
          source := src
          start := start
          stopHour := byteAt p 6
          stopMinute := byteAt p 7
          repeats := rep
          speed := spd
          label := labelOperand p }
      else none
  | _, _, _ => none

/-- LINE_ASSIGN: the assignment of bytes 1 to 4, when check 2 of R166 passes. -/
def assignOperand (p : List Byte) : Option Assignment :=
  match boolCode (byteAt p 1), lineEvents[byteAt p 2]?, boolCode (byteAt p 3), levelCode (byteAt p 4) with
  | some out, some e, some od, some lv => some ⟨out, e, od, lv⟩
  | _, _, _, _ => none

/-! ### Images (10.8) -/

/-- The four bytes of a label; zeros for an absent one (log 63). -/
def labelBytes (l : Option Label) : List Byte :=
  match l with
  | some l => [byte l.day, byte l.month, byte l.hour, byte l.minute]
  | none => [0, 0, 0, 0]

/-- Four bytes of a number that may lie below 0, then in two's complement (log 63): a moment as a calendar
time, a frequency in kHz. -/
def signedBytes4 (m : Int) : List Byte := bytes4 (BitVec.ofInt 32 m).toNat

/-- The timer record image with the trigger, the deadline and the phase and stop mode (R138). The bytes of
absent fields are zeros, and the last byte holds the phase and the stop mode that the record last had,
where its state uses neither (log 63). -/
def recordImage (p : Params) (slot : Nat) (r : TimerRecord) : List Byte :=
  [byte slot, byte (codeOfSource r.source)] ++ bytes4 r.start
    ++ [byte r.stopHour, byte r.stopMinute, byte (codeOfRepeat r.repeats), byte (codeOfChoice r.speed),
        flagsByte [r.labelControl, r.label.isSome, r.actualStart.isSome, r.actualStop.isSome,
          r.flags.fallback, r.flags.willNotFit, r.flags.unplanned, r.flags.unindexed]]
    ++ labelBytes r.label
    ++ [byte (codeOfRecState r.state), byte ((r.lastResult.map codeOfResult).getD 0)]
    ++ bytes4 (r.actualStart.getD 0) ++ bytes4 (r.actualStop.getD 0)
    ++ [byte ((r.chosen.map (fun v => codeOfSpeed v + 1)).getD 0)]
    ++ (if r.state = .empty then List.replicate 9 0
        else
          signedBytes4 (if r.state = .deferred then r.deferredTrigger else r.trigger p)
            ++ signedBytes4 (r.deadline p)
            ++ [byte (codeOfPhase r.phase + 4 * codeOfStopMode r.stopMode)])

/-- The preset image with the frequency (R94); zeros in the bytes of absent fields (log 63). -/
def presetImage (f : FieldSystem) (n : Nat) (x : Option Preset) : List Byte :=
  match x with
  | none => [byte n, 0, 0, 0, 0, 0, 0, 0, 0, 0] ++ List.replicate 8 32 ++ [0, 0, 0, 0]
  | some e =>
      let name := e.name.getD []
      [byte n, 1] ++ bytes2 e.n
        ++ [signedByte e.fine, flagsByte [e.skip, e.afc, e.timeSource],
            flagsByte [e.code.isSome, e.name.isSome]]
        ++ bytes2 (e.code.getD 0) ++ [byte name.length]
        ++ (name ++ List.replicate (8 - name.length) 32)
        ++ signedBytes4 (frequencyOf f e.n)

/-- The directory entry image; zeros for an absent entry (R87), and zeros in the bytes of the fields that
a present entry does not have (log 63). -/
def entryImage (inProgress : Option Nat) (e : Option DirEntry) : List Byte :=
  match e with
  | none => List.replicate 17 0
  | some e =>
      let going := decide (inProgress = some e.start)
      [flagsByte [true, going, e.stop.isSome, e.source.isSome, e.label.isSome, e.slot.isSome]]
        ++ bytes4 e.start ++ bytes4 (e.stop.getD 0)
        ++ [byte ((e.speed.map codeOfSpeed).getD 3), byte (codeOfOrigin e.origin),
            byte ((e.source.map codeOfSource).getD 0)]
        ++ labelBytes e.label ++ [byte (e.slot.getD 0)]

/-- The results of DIRECTORY_READ: the count, the first index and two images (R87). -/
def directoryImage (t : Tau) (first : Nat) : List Byte :=
  [byte t.directory.length, byte first] ++ entryImage t.inProgress t.directory[first]?
    ++ entryImage t.inProgress t.directory[first + 1]?

end Sys2Proof.Machine
end

