-- ==== Sys2Proof/Machine/Link.lean ====
section
/-!
DEFINITION. The Link Unit (chapter 10): the inbound receiver, the reports and the outbound queue, the
parameter set and the items that reports and replies carry.
-/
namespace Sys2Proof.Machine

/-! ### Items (R28, R69, R80, R106, R134, R160, R169, R179) -/

/-- R160: the number of records in a state. -/
def countRecs (t : RecState) (s : State) : Nat := (s.pgt.records.filter (fun r => r.state == t)).length

/-- R160: the TIMER report's items. -/
def timerItems (s : State) : TimerItems where
  engaged := s.pgt.engaged
  holder := s.holder.map (fun x => (x.1, x.2.state, x.2.phase, x.2.chosen, x.2.stopMode))
  lastChanged := s.pgt.lastChanged.map (fun n => (n, (s.slot n).state, (s.slot n).lastResult))
  armed := countRecs .armed s
  deferred := countRecs .deferred s
  tracker := s.dlp.tracker

/-- R80: the cue seek's items. -/
def seekItems (s : State) : SeekItems where
  state := s.tau.seek.state
  reverse := s.tau.seek.reverse
  count := s.tau.seek.count
  found := s.tau.seek.found
  foundPos := s.tau.seek.foundPos
  entries := s.tau.directory.length

/-- R69: the items of the cassette record. -/
def tapeItemsOf (s : State) (r : Cassette) : TapeItems :=
  let rem := s.tau.remaining
  { tab := r.tab
    ws := r.ws
    wt := r.wt
    samples := r.samples.length
    k := r.k
    cls := r.cls
    name := s.tau.classEntry.map CassEntry.name
    total := s.tau.classEntry.map CassEntry.total
    position := r.position
    quality := r.quality
    remaining := rem
    remainingSp := rem.map (remainingTime s.field .sp)
    remainingLp := rem.map (remainingTime s.field .lp)
    remainingEp := if s.field = .f60 then rem.map (remainingTime s.field .ep) else none
    counter := r.counter
    counterValid := r.counterValid
    counterTime := counterTime s.field (displaySpeed s) r.counter
    speed := r.speed
    display := displaySpeed s
    endNear := s.tau.endNear
    zone := s.tau.zone }

/-- R70: the TAPE report's items; the record absent when there is none. -/
def tapeItems (s : State) : Option TapeItems := s.tau.record.map (tapeItemsOf s)

/-- R106: the items of TUNER_QUERY and the TUNER report. -/
def tunerItems (s : State) : TunerItems where
  state := s.tnu.state
  source := s.tnu.source
  base := s.tnu.base
  fine := s.tnu.base.map (fun _ => s.tnu.fine)
  afc := s.tnu.afc
  effective := s.tnu.effective
  frequency := s.tnu.base.map (frequencyOf s.field)
  band := s.tnu.band
  owner := s.tnu.owner
  external := s.tnu.external
  lastTuned := s.tnu.lastTuned
  searchResult := s.tnu.searchResult
  searchUp := s.tnu.searchUp
  foundDivider := s.tnu.foundDivider
  installResult := s.tnu.installResult
  installFirst := s.tnu.installFirst
  installNext := s.tnu.installNext
  installStored := s.tnu.installStored

/-- R134: the items of CLOCK_READ and the CLOCK report. -/
def clockItems (s : State) : ClockItems where
  now := s.cku.now
  weekday := s.cku.now.weekday
  state := s.cku.state
  holdOff := s.cku.holdOff
  lastJump := s.cku.lastJump

/-- R169: one line's items. -/
def lineItem (s : State) (i : Nat) : LineItem := ⟨s.line i, lineLevel i s, lineActive i s⟩

/-- R169: the items of LINE_QUERY and the LINE report. -/
def linesItems (s : State) : LineItems where
  lines := (List.range 8).map (lineItem s)
  requests := s.lnu.requests
  computed := computedConditions s
  active := indicators s
  staged := s.lnu.staged
  applied := s.lnu.applied

/-- R125: the items of LABEL_QUERY. -/
def labelItems (s : State) : LabelItems where
  context := s.context
  expected := s.expected
  tracker := s.dlp.tracker
  proposal := s.dlp.proposal
  learning := s.learning
  learnCode := s.dlp.learnCode
  learnCount := s.dlp.learnCount
  candidate := s.dlp.candidate

/-- R181: one channel in the transport summary. -/
def channelSummary (m : Motor) : ChannelSummary := ⟨m.state, m.applied.duty, m.recoveries⟩

/-- R48: the speed of the capstan loop's current target (log 62). -/
def CapTarget.speed : CapTarget → Option Speed
  | .run _ k _ => some (speedOf k)
  | .off | .hold => none

/-- R48, R181: the items of STATUS. -/
def statusItems (s : State) : StatusItems where
  conditions := conditionItems s
  cause := s.lku.cause
  dropped := s.dlp.dropped
  transport := s.tc.state
  dest := s.tc.goal.map Goal.dest
  owner := s.owner
  retryCount := s.tc.retryCount
  supply := s.mdu.supply
  channels := ⟨channelSummary s.mdu.drum, channelSummary s.mdu.capstan, channelSummary s.mdu.reel,
    channelSummary s.mdu.loading⟩
  drumLock := s.svu.drum.lock
  capLock := s.svu.cap.lock
  speed := s.tau.record.bind Cassette.speed
  running := s.svu.capTarget.speed
  engaged := s.pgt.engaged
  holder := s.holder.map (fun x => (x.1, x.2.state))
  tunerState := s.tnu.state
  tunedSource := s.tnu.source
  tunerOwner := s.tnu.owner

/-! ### Reports (10.5) -/

/-- R177: the snapshot of a kind. -/
def snapshot (k : ReportKind) (s : State) : Report :=
  match k with
  | .transport => .transport (transportItems s)
  | .timer => .timer (timerItems s)
  | .tape => .tape (tapeItems s) (seekItems s)
  | .tuner => .tuner (tunerItems s)
  | .clock => .clock (clockItems s)
  | .condition => .condition (conditionItems s)
  | .line => .line (linesItems s)

/-- The kind of a report. -/
def Report.kind : Report → ReportKind
  | .transport _ => .transport
  | .timer _ => .timer
  | .tape _ _ => .tape
  | .tuner _ => .tuner
  | .clock _ => .clock
  | .condition _ => .condition
  | .line _ => .line

/-- R178: the flag of a kind in the report mask. -/
def ReportMask.on (m : ReportMask) : ReportKind → Bool
  | .transport => m.transport
  | .timer => m.timer
  | .tape => m.tape
  | .tuner => m.tuner
  | .clock => m.clock
  | .condition => m.condition
  | .line => m.line

/-- A packet of the queue is a report of a kind. -/
def Packet.isReport (k : ReportKind) : Packet → Bool
  | .report r => r.kind == k
  | _ => false

/-- R175, R177: a report takes the place of the one of its kind that is waiting, or joins the queue. -/
def placeReport (r : Report) (q : List Packet) : List Packet :=
  if q.any (Packet.isReport r.kind) then
    q.map (fun p => if p.isReport r.kind then .report r else p)
  else q ++ [.report r]

/-- R177: the report of one kind that is asked for is built, when the mask has it on. -/
def syncKind (after : State) (q : List Packet) (k : ReportKind) : List Packet :=
  if after.lku.params.reportMask.on k then placeReport (snapshot k after) q else q

/-- R177 (log 6): the reports that what led from `before` to `after` asks for, in the order in which they
were asked for. -/
def syncReports (before after : State) : State :=
  { after with lku := { after.lku with
      queue := (dueKinds before after).foldl (syncKind after) after.lku.queue
      wanted := [] } }

/-! ### The outbound link (10.4) -/

/-- R176: the oldest packet leaves the queue and its transmission begins, when the transmitter is idle
and the hold input inactive. -/
def startTransmission (s : State) : State :=
  match s.lku.queue with
  | [] => s
  | p :: rest =>
      if s.lku.supply = .mains ∧ s.lku.tx = none ∧ s.lku.hold = false then
        { s with lku := { s.lku with tx := some p, queue := rest } }
      else s

/-- The reports of a command, and the transmitter after it. -/
def publish (before after : State) : State := startTransmission (syncReports before after)

/-- R174: a reply is waiting in the queue. -/
def replyWaiting (s : State) : Bool := s.lku.queue.any Packet.isReply

/-- R173: a reply joins the queue. -/
def joinReply (r : Reply) (s : State) : State :=
  { s with lku := { s.lku with queue := s.lku.queue ++ [.reply r] } }

/-! ### The bytes sent (R173, R176, 10.8) -/

/-- 10.8: the class byte of an outbound packet. -/
def Packet.classByte : Packet → Byte
  | .copy true _ => 0x81
  | .copy false _ => 0x82
  | .reply _ => 0x83
  | .report _ => 0x84

/-- 10.8: the code of a reason, from 1, in the order of R173. -/
def codeOfReason : Reason → Nat
  | .unknownRequest => 1
  | .badLength => 2
  | .badParameter => 3
  | .noCassette => 4
  | .isProtected => 5
  | .dew => 6
  | .timerEngaged => 7
  | .owned => 8
  | .notAllowed => 9
  | .atTapeEnd => 10
  | .lockedOut => 11
  | .motorLatched => 12
  | .conflict => 13

/-- 10.8: the first four payload bytes of a reply: tag, outcome, reason and flags. -/
def Reply.header (r : Reply) : List Byte :=
  [r.tag, byte (if r.reason.isSome then 1 else 0), byte ((r.reason.map codeOfReason).getD 0),
    flagsByte [r.clamped]]

/-- The payload of an outbound packet, where 10.8 lays it out (log 8). -/
def Packet.payload? : Packet → Option (List Byte)
  | .copy _ p => some p
  | .reply r =>
      match r.results with
      | .none => some r.header
      | .image bytes => some (r.header ++ bytes)
      | _ => none
  | .report _ => none

/-- R176: the bytes of a packet of a class: class, length, payload, and the check byte that makes their
sum 0 modulo 256. -/
def frameOf (cls : Byte) (payload : List Byte) : List Byte :=
  let bytes := [cls, byte payload.length] ++ payload
  bytes ++ [0 - byteSum bytes]

/-- R176: the bytes of an outbound packet, where 10.8 lays its payload out. -/
def Packet.frame? (p : Packet) : Option (List Byte) := p.payload?.map (frameOf p.classByte)

/-- R176: the ticks that the transmission of such a packet takes, 80 for each byte. -/
def Packet.sendTicks? (p : Packet) : Option Tick := p.frame?.map (fun bytes => bytes.length * 80)

/-! ### The receiver (10.1) -/

/-- R171: what a byte taken by the receiver gives. -/
inductive Received where
  | nothing
  | fault
  | dataLine (payload : List Byte)
  | request (payload : List Byte)
  deriving DecidableEq, Repr

/-- R171: a receive phase entered with the gap timer restarted. -/
def Receiver.goTo (r : Receiver) (ph : RxPhase) (now : Tick) : Receiver :=
  { r with phase := ph, gapTimer := some (now + millis 1) }

/-- R171: the packet being assembled is discarded until the gap timer runs out. -/
def Receiver.discard (now : Tick) : Receiver := { Receiver.idle with phase := .discard, gapTimer := some (now + millis 1) }

/-- R171: the complete packet, with the check byte. -/
def Receiver.complete (r : Receiver) (check : Byte) : Received :=
  if byteSum ([r.cls, byte r.len] ++ r.payload ++ [check]) ≠ 0 then .fault
  else if r.cls = 1 then .dataLine r.payload
  else if r.payload.length < 2 then .fault
  else .request r.payload

/-- R171: the receiver takes one byte with its stop bit. -/
def Receiver.take (r : Receiver) (b : Byte) (now : Tick) : Receiver × Received :=
  match r.phase with
  | .idle =>
      if b = 1 ∨ b = 2 then ({ r with cls := b, len := 0, payload := [] }.goTo .length now, .nothing)
      else (Receiver.discard now, .fault)
  | .length =>
      if 40 < b.toNat then (Receiver.discard now, .fault)
      else
        ({ r with len := b.toNat }.goTo (if b.toNat = 0 then .check else .payload) now, .nothing)
  | .payload =>
      let p := r.payload ++ [b]
      ({ r with payload := p }.goTo (if p.length < r.len then .payload else .check) now, .nothing)
  | .check => (Receiver.idle, r.complete b)
  | .discard => (r.goTo .discard now, .nothing)

/-- R171: the receive phase in which a byte can lead to a fault; a byte with no stop bit discards in
any. -/
def faultFits (f : PacketFault) (r : Receiver) : Bool :=
  match f with
  | .badClass => r.phase == .idle
  | .badLength => r.phase == .length
  | .noStopBit => true
  | .badCheck => r.phase == .check
  | .shortRequest => r.phase == .check && r.cls == 2 && decide (r.payload.length < 2)

/-- R171: where the receiver goes at a fault. -/
def afterFault (f : PacketFault) (now : Tick) : Receiver :=
  match f with
  | .badClass | .badLength | .noStopBit => Receiver.discard now
  | .badCheck | .shortRequest => Receiver.idle

/-- The state with the receiver replaced. -/
def withRx (r : Receiver) (s : State) : State := { s with lku := { s.lku with rx := r } }

/-- R171: a byte that discards the packet; a fault that the receive phase does not admit is none. -/
def discardPacket (f : PacketFault) (s : State) : State :=
  if faultFits f s.lku.rx then latch .linkError (withRx (afterFault f s.now) s) else s

/-- R171: the gap timer runs out; only in DISCARD is that no fault. -/
def gapExpires (s : State) : State :=
  match s.lku.rx.gapTimer with
  | none => s
  | some due =>
      let s1 := withRx Receiver.idle (s.reaches due)
      if s.lku.rx.phase = .discard then s1 else latch .linkError s1

/-! ### Parameters (10.7) -/

/-- A flag as the value of a parameter. -/
def flagValue (b : Bool) : Int := if b then 1 else 0

/-- R182: a value clamped to a range, and whether it was. -/
def clampTo (lo hi v : Int) : Int × Bool := (clampInt lo hi v, decide (v < lo) || decide (hi < v))

/-- R182: SEARCH_MULT takes 5 or 9. -/
def clampMult (v : Int) : Int × Bool := (if v ≤ 7 then 5 else 9, !(v == 5 || v == 9))

/-- 10.7.1: the range of a parameter; `none` for SEARCH_MULT, which has two values. -/
def paramRange (id : Nat) : Option (Int × Int) :=
  match id with
  | 1 => some (0, 1)
  | 2 => some (0, 60)
  | 3 => some (1, 30)
  | 4 => some (0, 240)
  | 5 => some (0, 180)
  | 6 => some (60, 600)
  | 7 => none
  | 8 | 9 | 10 | 11 => some (0, 1)
  | 12 | 13 | 14 | 15 | 16 | 17 => some (0, 1023)
  | 18 | 19 | 20 | 21 => some (0, 1)
  | 22 | 23 => some (0, 15)
  | 24 => some (60, 200)
  | 25 | 26 | 27 | 29 | 30 | 31 => some (0, 255)
  | 28 | 32 => some (0, 1023)
  | 33 => some (-63, 63)
  | 34 | 35 => some (0, 1)
  | 36 => some (0, 127)
  | _ => none

/-- 10.7.1: the parameter identifiers. -/
def isParam (id : Nat) : Bool := decide (1 ≤ id) && decide (id ≤ 36)

/-- R182: the value a parameter takes for one offered, and whether it was clamped. -/
def paramValue (id : Nat) (v : Int) : Int × Bool :=
  match paramRange id with
  | some (lo, hi) => clampTo lo hi v
  | none => clampMult v

/-- The report mask as a number, TRANSPORT lowest. -/
def ReportMask.value (m : ReportMask) : Nat :=
  (flagsByte [m.transport, m.timer, m.tape, m.tuner, m.clock, m.condition, m.line]).toNat

/-- The report mask of a number. -/
def ReportMask.of (n : Nat) : ReportMask :=
  ⟨n.testBit 0, n.testBit 1, n.testBit 2, n.testBit 3, n.testBit 4, n.testBit 5, n.testBit 6⟩

/-- A policy as its code. -/
def policyCode (p : Policy) : Int := if p = .recover then 1 else 0

/-- The policy of a code. -/
def policyOf (v : Int) : Policy := if v = 1 then .recover else .latch

/-- A class as its code. -/
def classCode (c : CondClass) : Int := if c = .fault then 1 else 0

/-- The class of a code. -/
def condClassOf (v : Int) : CondClass := if v = 1 then .fault else .warning

/-- R184: the value of a parameter held. -/
def Params.get (p : Params) (id : Nat) : Int :=
  match id with
  | 1 => if p.fieldSystem = .f60 then 1 else 0
  | 2 => p.preRoll
  | 3 => p.watchLead
  | 4 => p.labelWait
  | 5 => p.overrun
  | 6 => p.endWarn
  | 7 => p.searchMult
  | 8 => flagValue p.autoRewind
  | 9 => flagValue p.cueOnRecord
  | 10 => flagValue p.learnSources
  | 11 => flagValue p.broadcastTime
  | 12 => p.windDuty
  | 13 => p.approachDuty
  | 14 => p.ceiling.drum
  | 15 => p.ceiling.capstan
  | 16 => p.ceiling.reel
  | 17 => p.ceiling.loading
  | 18 => policyCode p.policy.drum
  | 19 => policyCode p.policy.capstan
  | 20 => policyCode p.policy.reel
  | 21 => policyCode p.policy.loading
  | 22 => p.dzReel
  | 23 => p.dzLoading
  | 24 => p.vNom
  | 25 => p.drumGains.kp
  | 26 => p.drumGains.ki
  | 27 => p.drumGains.kph
  | 28 => p.drumGains.base
  | 29 => p.capGains.kp
  | 30 => p.capGains.ki
  | 31 => p.capGains.kph
  | 32 => p.capGains.base
  | 33 => p.tracking
  | 34 => classCode p.classServoUnlock
  | 35 => classCode p.classSupplyLow
  | 36 => p.reportMask.value
  | _ => 0

/-- R182: the parameter set with a parameter at a value within its range. -/
def Params.set (p : Params) (id : Nat) (v : Int) : Params :=
  let n := v.toNat
  let on := decide (v = 1)
  match id with
  | 1 => { p with fieldSystem := if v = 1 then .f60 else .f50 }
  | 2 => { p with preRoll := n }
  | 3 => { p with watchLead := n }
  | 4 => { p with labelWait := n }
  | 5 => { p with overrun := n }
  | 6 => { p with endWarn := n }
  | 7 => { p with searchMult := n }
  | 8 => { p with autoRewind := on }
  | 9 => { p with cueOnRecord := on }
  | 10 => { p with learnSources := on }
  | 11 => { p with broadcastTime := on }
  | 12 => { p with windDuty := n }
  | 13 => { p with approachDuty := n }
  | 14 => { p with ceiling := { p.ceiling with drum := n } }
  | 15 => { p with ceiling := { p.ceiling with capstan := n } }
  | 16 => { p with ceiling := { p.ceiling with reel := n } }
  | 17 => { p with ceiling := { p.ceiling with loading := n } }
  | 18 => { p with policy := { p.policy with drum := policyOf v } }
  | 19 => { p with policy := { p.policy with capstan := policyOf v } }
  | 20 => { p with policy := { p.policy with reel := policyOf v } }
  | 21 => { p with policy := { p.policy with loading := policyOf v } }
  | 22 => { p with dzReel := n }
  | 23 => { p with dzLoading := n }
  | 24 => { p with vNom := n }
  | 25 => { p with drumGains := { p.drumGains with kp := n } }
  | 26 => { p with drumGains := { p.drumGains with ki := n } }
  | 27 => { p with drumGains := { p.drumGains with kph := n } }
  | 28 => { p with drumGains := { p.drumGains with base := n } }
  | 29 => { p with capGains := { p.capGains with kp := n } }
  | 30 => { p with capGains := { p.capGains with ki := n } }
  | 31 => { p with capGains := { p.capGains with kph := n } }
  | 32 => { p with capGains := { p.capGains with base := n } }
  | 33 => { p with tracking := v }
  | 34 => { p with classServoUnlock := condClassOf v }
  | 35 => { p with classSupplyLow := condClassOf v }
  | 36 => { p with reportMask := ReportMask.of n }
  | _ => p

/-- R178: the report kinds a new mask turns on. -/
def turnedOn (old new : ReportMask) : List ReportKind :=
  ReportKind.all.filter (fun k => new.on k && !old.on k)

/-- R178: a report of a kind that the mask has off leaves the queue. -/
def maskQueue (m : ReportMask) (q : List Packet) : List Packet :=
  q.filter (fun p => match p with
    | .report r => m.on r.kind
    | _ => true)

/-- R178: a change of the report mask acts on the queue. -/
def maskChanged (old : ReportMask) (s : State) : State :=
  let m := s.lku.params.reportMask
  { s with lku := { s.lku with
      queue := maskQueue m s.lku.queue, wanted := (turnedOn old m).foldl askFor s.lku.wanted } }

/-- 10.7.1, "Takes effect": what a new value does at once. -/
def paramActs (id : Nat) (old : Params) (s : State) : State :=
  match id with
  | 6 => refreshTape s
  | 10 => if old.learnSources = s.lku.params.learnSources then s else clearLearning s
  | 12 => restageWind s
  | 13 => restageReel s
  | 36 => maskChanged old.reportMask s
  | _ => s

/-- R182: a parameter set to a value. -/
def setParam (id : Nat) (v : Int) (s : State) : State :=
  paramActs id s.lku.params
    (noted .condition s
      { s with lku := { s.lku with params := s.lku.params.set id (paramValue id v).1 } })

end Sys2Proof.Machine
end

