-- ==== Sys2Proof/Machine/Complete.lean ====
section
/-!
DEFINITION. How a command's meaning is completed: its hand-overs are carried out, its reports built and
the transmitter served (log 5, log 6); and the handling every request shares (R173, R174).
-/
namespace Sys2Proof.Machine

/-- What a step answers. -/
abbrev Outcome := Host.Outcome State Fault Refusal

/-- R177: a handler's hand-overs carried out, the reports built at each change (log 6); `before` is the
state the handler met. -/
def settleReporting (before : State) (h : Handed) : Option State :=
  settleTasks syncReports (syncReports before h.1, h.2)

/-- R178: a handler's hand-overs carried out while a block takes its start values: no report is built
before the reports of the start. -/
def settleStart (h : Handed) : Option State := settleTasks (fun _ after => after) h

/-- A handler's answer completed, `before` being the state the command met. -/
def complete (before : State) (h : Handed) : Outcome :=
  match settleReporting before h with
  | some t => .next (startTransmission t)
  | none => .fault .handOversUnfinished

/-- R187: a command of the part's own working has effect while mains is present. -/
def event (f : State → Handed) (s : State) : Outcome :=
  if s.lku.supply = .mains then complete s (f s) else .next s

/-- A command whose handler makes no hand-over. -/
def plainEvent (f : State → State) (s : State) : Outcome :=
  if s.lku.supply = .mains then .next (publish s (f s)) else .next s

/-- What an owner answers to a request it takes (R173): the state, the hand-overs it makes, the flag
CLAMPED, the results read when the reply is built, and what follows the reply (R181). -/
structure Taken where
  state : State
  tasks : List Task
  clamped : Bool
  results : State → Results
  after : State → Handed

/-- An owner's answer to a request. -/
inductive Answer where
  | refuse (r : Reason)
  | take (t : Taken)

/-- A request taken with its results, and nothing after the reply. -/
def taken (h : Handed) (clamped : Bool) (results : State → Results) : Answer :=
  .take ⟨h.1, h.2, clamped, results, fun s => (s, [])⟩

/-- A request taken that changes nothing by itself but `h`, and carries no results. -/
def done (h : Handed) : Answer := taken h false (fun _ => .none)

/-- R173: a request refused in its reply. -/
def refuseRequest (tag : Byte) (why : Reason) (s : State) : Outcome :=
  .next (startTransmission (joinReply ⟨tag, some why, false, .none⟩ s))

/-- R173: a request taken: its hand-overs, its reports, its reply, and what follows the reply. -/
def answerRequest (tag : Byte) (t : Taken) (s : State) : Outcome :=
  match settleReporting s (t.state, t.tasks) with
  | none => .fault .handOversUnfinished
  | some s1 =>
      let s2 := joinReply ⟨tag, none, t.clamped, t.results s1⟩ s1
      complete s2 (t.after s2)

/-- R174: a request received while a reply is waiting is discarded. -/
def overrun (s : State) : Outcome := .next (publish s (latch .requestOverrun s))

/-- R173, R174: a request with its number of parameter bytes and its owner's answer. -/
def serveRequest (len : Nat) (answer : List Byte → State → Answer) (tag : Byte) (params : List Byte)
    (s : State) : Outcome :=
  if s.lku.supply ≠ .mains then .next s
  else if replyWaiting s then overrun s
  else if params.length ≠ len then refuseRequest tag .badLength s
  else
    match answer params s with
    | .refuse why => refuseRequest tag why s
    | .take t => answerRequest tag t s

/-- R173: a request whose name is none of 10.3. -/
def serveUnknown (tag : Byte) (s : State) : Outcome :=
  if s.lku.supply ≠ .mains then .next s
  else if replyWaiting s then overrun s
  else refuseRequest tag .unknownRequest s

end Sys2Proof.Machine
end

