-- ==== Sys2Proof/Machine/Power.lean ====
section
/-!
DEFINITION. The power-fail stop, the starts (chapter 11) and the resets (R185).
-/
namespace Sys2Proof.Machine

/-! ### The power-fail stop (11.1) -/

/-- R188: TC at the power-fail stop: the record gate dropped, POWER_DOWN, with every timer stopped. -/
def powerDownTransport (s : State) : State :=
  let s1 := (enterRaw .powerDown (endSeek .cancelled (gateOff s))).1
  { s1 with tc := { s1.tc with
      retryCount := 0
      retry := .none
      startUp := false
      interrupted := none
      eject := .notMade
      ejectTo := none
      decayTimer := none } }

/-- R188: SVU at the power-fail stop, beside the targets that POWER_DOWN sets OFF. -/
def stopServos (s : State) : State :=
  { s with svu := { s.svu with ident := .idle, watchdog := none } }

/-- R188: TNU at the power-fail stop: a search or install stops and a word in transfer is abandoned. -/
def stopTuner (s : State) : State :=
  let s1 := cancelScan s
  { s1 with tnu := { s1.tnu with
      word := none
      wordPending := false
      bandOut := none
      settleTimer := none
      wordTimer := none
      afcTimer := none } }

/-- R190: LKU at the power-fail stop. -/
def stopLink (s : State) : State :=
  { s with
    lku := { s.lku with
      rx := Receiver.idle
      queue := []
      tx := none
      latched := []
      live := []
      wanted := []
      supply := .failed
      returnTimer := none }
    dlp := { s.dlp with dropped := 0 } }

/-- R187: the power-fail stop. -/
def powerFailStop (s : State) : State :=
  stopLink (powerFailTimer (stopTuner (stopServos (stopAllMotors (powerDownTransport s)))))

/-! ### Starts (11.3) -/

/-- R32, R37: a first supply sample below 90 raises SUPPLY_LOW; no motor runs yet. -/
def firstSample (v : Nat) (s : State) : State := if v < 90 then latch .supplyLow s else s

/-- R178: every report is asked for. -/
def wantAll (s : State) : State := { s with lku := { s.lku with wanted := ReportKind.all } }

/-- R186: LKU at a start of a cause, with a parameter set and the condition that the start raises. -/
def Lku.started (old : Lku) (cause : StartCause) (params : Params) (k : Condition) : Lku where
  rx := Receiver.idle
  queue := []
  tx := none
  hold := old.hold
  latched := [k]
  live := []
  cause := cause
  params := params
  supply := .mains
  returnTimer := none
  wanted := []

/-- R193: the values of a cold start. -/
def coldValues (p : Pins) (s : State) : State :=
  { s with
    tc := Tc.start (sensorsOf p)
    mdu := Mdu.start p.supply.toNat s.now
    svu := Svu.start (framePeriod Params.default.fieldSystem) s.now
    tau := Tau.start (List.replicate 8 none)
    tnu := Tnu.start (List.replicate 60 none) BandTable.default none
    dlp := Dlp.start (List.replicate 8 none)
    cku := Cku.cold
    pgt := Pgt.cold
    lnu := Lnu.start (List.replicate 8 Assignment.default) p.lines
    lku := s.lku.started .cold Params.default .clockLost
    pins := p }

/-- R161: PGT after a warm start: the table and the engaged flag kept, the working state of the records
cleared; none of them is active (R189). -/
def Pgt.warm (p : Pgt) : Pgt where
  records := p.records.map TimerRecord.cleared
  engaged := p.engaged
  claim := none
  lastChanged := none
  again := none

/-- R193: the values of a warm start. -/
def warmValues (p : Pins) (s : State) : State :=
  { s with
    tc := Tc.start (sensorsOf p)
    mdu := Mdu.start p.supply.toNat s.now
    svu := Svu.start (framePeriod s.field) s.now
    tau := Tau.start s.tau.table
    tnu := Tnu.start s.tnu.presets s.tnu.limits s.tnu.lastTuned
    dlp := Dlp.start s.dlp.filter
    cku := { s.cku with holdOff := 0, lastJump := none }
    pgt := s.pgt.warm
    lnu := Lnu.start s.lnu.lines p.lines
    lku := s.lku.started .warm s.lku.params .powerFail
    pins := p }

/-- R193: a cold start: TC's start-up procedure. -/
def coldStart (p : Pins) (s : State) : Handed :=
  startUpProcedure (firstSample p.supply.toNat (coldValues p s))

/-- R193, R194: a warm start: TC, then TNU, then PGT's catch-up. -/
def warmStart (p : Pins) (s : State) : Handed :=
  let h := andThen (startUpProcedure (firstSample p.supply.toNat (warmValues p s))) warmTune
  (h.1, h.2 ++ [.pgtCatchUp])

/-- R192: the return timer runs out; the backup-good input chooses the kind of start. -/
def returnExpires (p : Pins) (s : State) : Handed :=
  match s.lku.supply, s.lku.returnTimer with
  | .returning, some due =>
      if p.backupGood then warmStart p (s.reaches due) else coldStart p (s.reaches due)
  | _, _ => (s, [])

/-! ### Resets (R185) -/

/-- R185, R186: the values of a RESET DECK. DESIGN CHOICE (log 75): the AFC offset stands, with the rest of
TNU (R107, R97). -/
def deckValues (p : Pins) (s : State) : State :=
  { s with
    tc := Tc.start (sensorsOf p)
    mdu := Mdu.reset p.supply.toNat s.now s.mdu
    svu := Svu.start (framePeriod s.field) s.now
    tau := Tau.start s.tau.table
    dlp := Dlp.start s.dlp.filter
    lnu := Lnu.start s.lnu.lines p.lines
    lku := { s.lku with queue := [], live := [], cause := .command }
    pins := p }

/-- R185, R186: the values of a RESET ALL. -/
def allValues (p : Pins) (s : State) : State :=
  { s with
    tc := Tc.start (sensorsOf p)
    mdu := Mdu.reset p.supply.toNat s.now s.mdu
    svu := Svu.start (framePeriod Params.default.fieldSystem) s.now
    tau := Tau.start (List.replicate 8 none)
    tnu := Tnu.start (List.replicate 60 none) BandTable.default none
    dlp := Dlp.start (List.replicate 8 none)
    cku := Cku.cold
    pgt := Pgt.cold
    lnu := Lnu.start (List.replicate 8 Assignment.default) p.lines
    lku := { s.lku with
      queue := [], latched := [.clockLost], live := [], cause := .command, params := Params.default }
    pins := p }

/-- R185, R161: a RESET DECK: PGT's active record ends, the blocks take their values, the DEFERRED
records are served from the start-up state. -/
def resetDeckNow (p : Pins) (s : State) : Handed :=
  let h := startUpProcedure (firstSample p.supply.toNat (deckValues p (resetDeckTimer s)))
  (h.1, h.2 ++ [.pgtServe])

/-- R185: a RESET ALL. -/
def resetAllNow (p : Pins) (s : State) : Handed :=
  startUpProcedure (firstSample p.supply.toNat (allValues p s))

/-- R178: a start or a reset completed: the reports are built in their order once every block has taken
its start values. -/
def completeStart (h : Handed) : Outcome :=
  match settleStart h with
  | none => .fault .handOversUnfinished
  | some t => .next (publish t (wantAll t))

/-- R185: a reset completed: its reply joins the empty queue first, the reports follow it. -/
def completeReset (tag : Byte) (h : Handed) : Outcome :=
  completeStart (joinReply ⟨tag, none, false, .none⟩ h.1, h.2)

/-- R185, R174: a RESET as received, of a scope, with the inputs as it reads them. -/
def serveReset (deck : Bool) (tag : Byte) (p : Pins) (s : State) : Outcome :=
  if s.lku.supply ≠ .mains then .next s
  else if replyWaiting s then overrun s
  else completeReset tag (if deck then resetDeckNow p s else resetAllNow p s)

end Sys2Proof.Machine
end

