-- ==== Sys2Proof/Machine/Requests.lean ====
section
/-!
DEFINITION. What the owner of each request answers (R173 step 4): its checks in their order, the change it
makes, and the results its reply carries.
-/
namespace Sys2Proof.Machine

/-! ### Transport and tape -/

/-- R6, R8: DECK_REQUEST. -/
def answerDeck (p : List Byte) (s : State) : Answer :=
  let q : TransportRequest := ⟨targetOf (byteAt p 0), speedCode (byteAt p 1), .deck⟩
  match checkRequest q s with
  | some why => .refuse why
  | none => taken (s, [.tcTake q]) false (fun t => .deck t.tc.state (t.tc.goal.map Goal.dest))

/-- R77: the target of a seek direction. -/
def seekTarget : Nat → Option Target
  | 0 => some .searchFwd
  | 1 => some .searchRev
  | _ => none

/-- R77: CUE_SEEK. -/
def answerCueSeek (p : List Byte) (s : State) : Answer :=
  let n := byteAt p 1
  match seekTarget (byteAt p 0) with
  | none => .refuse .badParameter
  | some t =>
      if n < 1 ∨ 20 < n then .refuse .badParameter
      else
        let q : TransportRequest := ⟨some t, none, .seek n⟩
        match checkRequest q s with
        | some why => .refuse why
        | none => done (s, [.tcTake q])

/-- R74: CUE_MARK. -/
def answerCueMark (_ : List Byte) (s : State) : Answer :=
  if s.tc.state = .record then done (markHere s, []) else .refuse .notAllowed

/-- R64: COUNTER_ZERO. -/
def answerCounterZero (_ : List Byte) (s : State) : Answer :=
  match s.tau.record with
  | none => .refuse .noCassette
  | some _ => done (zeroCounter s, [])

/-- R69, R80: TAPE_QUERY. -/
def answerTapeQuery (_ : List Byte) (s : State) : Answer :=
  match s.tau.record with
  | none => .refuse .noCassette
  | some r => taken (s, []) false (fun t => .tape (tapeItemsOf t r) (seekItems t))

/-- R87: DIRECTORY_READ. -/
def answerDirectoryRead (p : List Byte) (s : State) : Answer :=
  match s.tau.record with
  | none => .refuse .noCassette
  | some _ =>
      if 15 < byteAt p 0 then .refuse .badParameter
      else taken (s, []) false (fun t => .image (directoryImage t.tau (byteAt p 0)))

/-- The record's class is the entry of an index. -/
def isClass (i : Nat) (s : State) : Bool := s.tau.record.map Cassette.cls == some (.index i)

/-- R50: the results of a write. -/
def cassetteWriteResults (i : Nat) (wasClass : Bool) (t : State) : Results :=
  .cassetteWritten ((t.tau.entry i).map CassEntry.total) wasClass

/-- R50: the checks 2 to 4 on a valid entry. -/
def validEntry (p : List Byte) : Option CassEntry :=
  (entryOperand p).filter (fun e => decide (2 * e.hub ^ 2 < e.kNom) && decide (1 ≤ e.total))

/-- R50: CASSETTE_ENTRY_WRITE. -/
def answerCassetteWrite (p : List Byte) (s : State) : Answer :=
  let i := byteAt p 0
  if 7 < i then .refuse .badParameter
  else
    match boolCode (byteAt p 1) with
    | none => .refuse .badParameter
    | some false => taken (writeEntry i none s) false (cassetteWriteResults i (isClass i s))
    | some true =>
        match validEntry p with
        | none => .refuse .badParameter
        | some e => taken (writeEntry i (some e) s) false (cassetteWriteResults i (isClass i s))

/-- R51: CASSETTE_ENTRY_READ. -/
def answerCassetteRead (p : List Byte) (s : State) : Answer :=
  let i := byteAt p 0
  if 7 < i then .refuse .badParameter
  else
    taken (s, []) false
      (fun t => .cassetteEntry (t.tau.entry i) ((t.tau.entry i).map CassEntry.total) (isClass i t))

/-! ### Tuner -/

/-- A preset number. -/
def presetNumber (n : Nat) : Bool := decide (1 ≤ n) && decide (n ≤ 60)

/-- R93: checks 1 to 3 of PRESET_WRITE. -/
def presetRefusal (n : Nat) (s : State) : Option Reason :=
  if presetNumber n = false then some .badParameter
  else if s.tnu.owner = .timer ∧ s.tnu.source = .preset n then some .owned
  else if s.tnu.state = .installing then some .notAllowed
  else none

/-- R93: PRESET_WRITE for STORED. -/
def writeStored (n : Nat) (x : PresetFields) (s : State) : Answer :=
  match presetRefusal n s with
  | some why => .refuse why
  | none =>
      if inDividerRange s.field x.n = false then .refuse .badParameter
      else
        taken (writePreset n (some (x.over (s.tnu.preset n))) s) (decide (clampFine x.fine ≠ x.fine))
          (fun _ => .none)

/-- R93: PRESET_WRITE for BLANK. -/
def writeBlank (n : Nat) (s : State) : Answer :=
  match presetRefusal n s with
  | some why => .refuse why
  | none => done (writePreset n none s)

/-- R93: PRESET_WRITE. -/
def answerPresetWrite (p : List Byte) (s : State) : Answer :=
  match boolCode (byteAt p 1) with
  | none => .refuse .badParameter
  | some false => writeBlank (byteAt p 0) s
  | some true =>
      match presetOperand p with
      | none => .refuse .badParameter
      | some x => writeStored (byteAt p 0) x s

/-- R94: PRESET_READ. -/
def answerPresetRead (p : List Byte) (s : State) : Answer :=
  let n := byteAt p 0
  if presetNumber n then
    taken (s, []) false (fun t => .image (presetImage t.field n (t.tnu.preset n)))
  else .refuse .badParameter

/-- R96: the results of the tuning requests. -/
def tuningResults (s : State) : Results :=
  .tuning s.tnu.source s.tnu.base (s.tnu.base.map (frequencyOf s.field)) s.tnu.band

/-- R95, R96: a tuning taken. -/
def tuningTaken (h : Handed) (clamped : Bool) : Answer := taken h clamped tuningResults

/-- R95, R96: TUNE_PRESET. A tune that changes nothing of the tuning cancels no scan, since the tuned
source of a scan is no preset. -/
def answerTunePreset (p : List Byte) (s : State) : Answer :=
  let n := byteAt p 0
  if s.tnu.owner = .timer then .refuse .owned
  else if presetNumber n = false then .refuse .badParameter
  else if (s.tnu.preset n).isNone then .refuse .notAllowed
  else tuningTaken (tuneTo n (cancelScan s)) false

/-- R96: the divider of TUNE_FREQUENCY, brought into the bands; the answer says whether it was
moved. -/
def BandTable.place (t : BandTable) (n : Nat) : Nat × Bool :=
  if (t.bandOf n).isSome then (n, false) else ((t.nearest n).1, true)

/-- R95, R96: TUNE_FREQUENCY. -/
def answerTuneFrequency (p : List Byte) (s : State) : Answer :=
  let f := numberAt p 0 4
  if s.tnu.owner = .timer then .refuse .owned
  else if f < 45250 ∨ 863250 < f then .refuse .badParameter
  else
    let x := s.tnu.limits.place (dividerOf s.field f)
    tuningTaken (settleOn .direct x.1 0 (cancelScan s)) x.2

/-- A direction code of TUNE_STEP and SEARCH; true for UP. -/
def upCode (n : Nat) : Option Bool := (boolCode n).map (!·)

/-- R95, R96: TUNE_STEP. -/
def answerTuneStep (p : List Byte) (s : State) : Answer :=
  if s.tnu.owner = .timer then .refuse .owned
  else
    match upCode (byteAt p 0) with
    | none => .refuse .badParameter
    | some up =>
        match s.tnu.stepTarget up with
        | none => .refuse .notAllowed
        | some n => tuningTaken (tuneTo n (cancelScan s)) false

/-- R95, R98: SEARCH. -/
def answerSearch (p : List Byte) (s : State) : Answer :=
  if s.pgt.engaged then .refuse .timerEngaged
  else if s.tnu.owner = .timer then .refuse .owned
  else
    match upCode (byteAt p 0) with
    | none => .refuse .badParameter
    | some up => tuningTaken (beginSearch up s) false

/-- R95, R101: INSTALL. -/
def answerInstall (p : List Byte) (s : State) : Answer :=
  let n := byteAt p 0
  if s.pgt.engaged then .refuse .timerEngaged
  else if s.tnu.owner = .timer then .refuse .owned
  else if presetNumber n = false then .refuse .badParameter
  else tuningTaken (beginInstall n s) false

/-- R95, R96: FINE_TUNE. -/
def answerFineTune (p : List Byte) (s : State) : Answer :=
  let v := signedAt p 0
  if s.tnu.owner = .timer then .refuse .owned
  else if s.tnu.state = .settling ∨ s.tnu.state = .tuned then
    tuningTaken (fineTuneTo (clampFine v) s, []) (decide (clampFine v ≠ v))
  else .refuse .notAllowed

/-- R91: a scan is running. -/
def Tnu.scanning (t : Tnu) : Bool := t.state == .searching || t.state == .installing

/-- R89: BAND_LIMITS_WRITE. -/
def answerBandLimits (p : List Byte) (s : State) : Answer :=
  if s.tnu.scanning then .refuse .notAllowed
  else if (limitsOperand p).allowed then done (writeLimits (limitsOperand p) s, [])
  else .refuse .badParameter

/-- R105: SOURCE_SELECT. -/
def answerSourceSelect (p : List Byte) (s : State) : Answer :=
  match boolCode (byteAt p 0) with
  | none => .refuse .badParameter
  | some ext =>
      if s.pgt.claim.isSome then .refuse .owned
      else done (noted .tuner s { s with tnu := { s.tnu with external := ext } }, [])

/-- R106: TUNER_QUERY. -/
def answerTunerQuery (_ : List Byte) (s : State) : Answer :=
  taken (s, []) false (fun t => .tuner (tunerItems t))

/-! ### Data lines and clock -/

/-- An entry of the filter table. -/
def Dlp.entry (d : Dlp) (i : Nat) : Option FilterEntry := d.filter.getD i none

/-- R112: an entry of the filter table replaced. -/
def writeFilter (i : Nat) (e : Option FilterEntry) (s : State) : State :=
  { s with dlp := { s.dlp with filter := putAt s.dlp.filter i e } }

/-- R112: FILTER_WRITE. -/
def answerFilterWrite (p : List Byte) (s : State) : Answer :=
  let i := byteAt p 0
  if 7 < i then .refuse .badParameter
  else
    match boolCode (byteAt p 1) with
    | none => .refuse .badParameter
    | some false => done (writeFilter i none s, [])
    | some true =>
        match filterOperand p with
        | none => .refuse .badParameter
        | some e => done (writeFilter i (some e) s, [])

/-- R113: FILTER_READ. -/
def answerFilterRead (p : List Byte) (s : State) : Answer :=
  if 7 < byteAt p 0 then .refuse .badParameter
  else taken (s, []) false (fun t => .filter (t.dlp.entry (byteAt p 0)))

/-- R125: LABEL_QUERY. -/
def answerLabelQuery (_ : List Byte) (s : State) : Answer :=
  taken (s, []) false (fun t => .label (labelItems t))

/-- R130: CLOCK_SET. -/
def answerClockSet (p : List Byte) (s : State) : Answer :=
  let t := clockOperand p
  if t.valid then taken (setClock t s) false (fun x => .clockSet x.cku.now x.cku.now.weekday)
  else .refuse .badParameter

/-- R134: CLOCK_READ. -/
def answerClockRead (_ : List Byte) (s : State) : Answer :=
  taken (s, []) false (fun t => .clock (clockItems t))

/-! ### Programme timer -/

/-- A slot number. -/
def slotNumber (n : Nat) : Bool := decide (1 ≤ n) && decide (n ≤ 16)

/-- R137: the label as the write stores it. -/
def TimerRecord.withLabel (r : TimerRecord) : TimerRecord :=
  if r.labelControl then
    match r.label with
    | some _ => r
    | none =>
        let t := DateTime.ofSeconds r.start
        { r with label := some ⟨t.day, t.month, t.hour, t.minute⟩ }
  else { r with label := none }

/-- R137, checks 4 to 7: a check of the record as it was given fails. -/
def TimerRecord.unfit (f : FieldSystem) (r : TimerRecord) : Bool :=
  r.start % daySecs == r.stopHour * 3600 + r.stopMinute * 60
    || (r.speed == .fixed .ep && f == .f50)
    || (r.labelControl && r.source == .external)
    || (r.label.map (fun l => (l.moment r.start).isNone)).getD false

/-- R137, checks 8 and 9, and the move of a repeating record: the record to be stored. -/
def TimerRecord.placed (p : Params) (clock : Nat) (r : TimerRecord) : Option TimerRecord :=
  if r.repeats = .once then
    if (clock : Int) < r.deadline p ∧ r.stopMoment ≤ calendarMax then some r else none
  else (nextServing p clock 0 r).map r.shift

/-- R137: the results of a write. -/
def recordWriteResults (slot : Nat) (t : State) : Results :=
  let r := t.slot slot
  .recordWritten r.start (r.trigger t.lku.params) (r.deadline t.lku.params)

/-- R137, R138: a slot takes a record written, or an empty one. -/
def storeRec (slot : Nat) (r : TimerRecord) (s : State) : State := slotChanged slot (putRec slot r s)

/-- R137: RECORD_WRITE. -/
def answerRecordWrite (p : List Byte) (s : State) : Answer :=
  let slot := byteAt p 0
  if slotNumber slot = false then .refuse .badParameter
  else if (s.slot slot).state.active then .refuse .notAllowed
  else
    match recordOperand p with
    | none => .refuse .badParameter
    | some r =>
        if r.unfit s.field then .refuse .badParameter
        else
          match r.withLabel.placed s.lku.params s.clock with
          | none => .refuse .badParameter
          | some x => taken (storeRec slot x s, []) false (recordWriteResults slot)

/-- R138: RECORD_READ. -/
def answerRecordRead (p : List Byte) (s : State) : Answer :=
  let slot := byteAt p 0
  if slotNumber slot then
    taken (s, []) false (fun t => .image (recordImage t.lku.params slot (t.slot slot)))
  else .refuse .badParameter

/-- R138: RECORD_CLEAR. -/
def answerRecordClear (p : List Byte) (s : State) : Answer :=
  let slot := byteAt p 0
  if slotNumber slot = false then .refuse .badParameter
  else if (s.slot slot).state.active then .refuse .notAllowed
  else done (storeRec slot TimerRecord.blank s, [])

/-- R139: TIMER_ENGAGE. -/
def answerEngage (_ : List Byte) (s : State) : Answer :=
  if s.cku.state = .unset then .refuse .notAllowed else done (engage s, [])

/-- R140: TIMER_RELEASE. -/
def answerRelease (_ : List Byte) (s : State) : Answer := done (release s)

/-! ### Lines -/

/-- R166, check 3: the event does not go with the direction. -/
def Assignment.mismatched (a : Assignment) : Bool :=
  if a.output then a.event.isInput else a.event.isOutput

/-- R166: the results of LINE_ASSIGN. -/
def lineResults (i : Nat) (t : State) : Results := .line (t.line i) (lineLevel i t)

/-- R166: LINE_ASSIGN; the pin of its line reads `v`. -/
def answerLineAssign (v : PinLevel) (p : List Byte) (s : State) : Answer :=
  let i := byteAt p 0
  if 7 < i then .refuse .badParameter
  else
    match assignOperand p with
    | none => .refuse .badParameter
    | some a =>
        if a.mismatched then .refuse .badParameter
        else if eventTaken i a.event s then .refuse .conflict
        else taken (assignLine i a v s, []) false (lineResults i)

/-- R167: the request bit of an indicator set. -/
def setIndicator (i : Nat) (v : Bool) (s : State) : State :=
  noted .line s { s with lnu := { s.lnu with requests := s.lnu.requests.put i v } }

/-- R167: INDICATOR_SET. -/
def answerIndicator (p : List Byte) (s : State) : Answer :=
  let i := byteAt p 0
  match boolCode (byteAt p 1) with
  | none => .refuse .badParameter
  | some v =>
      if 3 < i then .refuse .badParameter
      else
        taken (setIndicator i v s, []) false (fun t => .indicators t.lnu.requests (indicators t))

/-- R168: the staged pattern replaced. -/
def stagePattern (x : Pattern) (s : State) : State :=
  noted .line s { s with lnu := { s.lnu with staged := x } }

/-- R168: PATTERN_STAGE. -/
def answerPattern (p : List Byte) (s : State) : Answer :=
  match boolCode (byteAt p 0), boolCode (byteAt p 1) with
  | some a, some b =>
      taken (stagePattern ⟨a, b⟩ s, []) false (fun t => .patterns t.lnu.staged t.lnu.applied)
  | _, _ => .refuse .badParameter

/-- R169: LINE_QUERY. -/
def answerLineQuery (_ : List Byte) (s : State) : Answer :=
  taken (s, []) false (fun t => .lines (linesItems t))

/-! ### Link -/

/-- R181: what the clear option does, after the reply has been built. -/
def clearStatus (s : State) : Handed :=
  releaseMotors
    (noted .condition s { s with lku := { s.lku with latched := [] }, dlp := { s.dlp with dropped := 0 } })

/-- R181: STATUS. -/
def answerStatus (p : List Byte) (s : State) : Answer :=
  match boolCode (byteAt p 0) with
  | none => .refuse .badParameter
  | some clear =>
      .take ⟨s, [], false, fun t => .status (statusItems t),
        fun t => if clear then clearStatus t else (t, [])⟩

/-- R182, check 2: FIELD_SYSTEM is not taken now. -/
def fieldLocked (id : Nat) (s : State) : Bool :=
  id == 1 && (s.tau.record.isSome || s.pgt.engaged)

/-- R182: PARAMETER_SET. -/
def answerParameterSet (p : List Byte) (s : State) : Answer :=
  let id := byteAt p 0
  let v := signed16At p 1
  if isParam id = false then .refuse .badParameter
  else if fieldLocked id s then .refuse .notAllowed
  else
    taken (setParam id v s, []) (paramValue id v).2 (fun t => .parameter (t.lku.params.get id))

/-- R184: PARAMETER_READ. -/
def answerParameterRead (p : List Byte) (s : State) : Answer :=
  if isParam (byteAt p 0) then
    taken (s, []) false (fun t => .parameter (t.lku.params.get (byteAt p 0)))
  else .refuse .badParameter

/-- R185: the request RESET as received, its parameters not yet read (log 29). -/
def serveResetRequest (tag : Byte) (params : List Byte) (s : State) : Outcome :=
  if s.lku.supply ≠ .mains then .next s
  else if replyWaiting s then overrun s
  else if params.length ≠ 1 then refuseRequest tag .badLength s
  else
    match byteAt params 0 with
    | 0 => serveReset true tag s.pins s
    | 1 => serveReset false tag s.pins s
    | _ => refuseRequest tag .badParameter s

/-! ### The request list (10.3) -/

/-- 10.3: a request by its name byte. -/
def dispatch (name : Byte) (tag : Byte) (params : List Byte) (s : State) : Outcome :=
  match name.toNat with
  | 16 => serveRequest 2 answerDeck tag params s
  | 32 => serveRequest 2 answerCueSeek tag params s
  | 33 => serveRequest 0 answerCueMark tag params s
  | 34 => serveRequest 0 answerCounterZero tag params s
  | 35 => serveRequest 0 answerTapeQuery tag params s
  | 36 => serveRequest 1 answerDirectoryRead tag params s
  | 37 => serveRequest 19 answerCassetteWrite tag params s
  | 38 => serveRequest 1 answerCassetteRead tag params s
  | 48 => serveRequest 18 answerPresetWrite tag params s
  | 49 => serveRequest 1 answerPresetRead tag params s
  | 50 => serveRequest 1 answerTunePreset tag params s
  | 51 => serveRequest 4 answerTuneFrequency tag params s
  | 52 => serveRequest 1 answerTuneStep tag params s
  | 53 => serveRequest 1 answerSearch tag params s
  | 54 => serveRequest 1 answerInstall tag params s
  | 55 => serveRequest 1 answerFineTune tag params s
  | 56 => serveRequest 12 answerBandLimits tag params s
  | 57 => serveRequest 1 answerSourceSelect tag params s
  | 58 => serveRequest 0 answerTunerQuery tag params s
  | 64 => serveRequest 7 answerFilterWrite tag params s
  | 65 => serveRequest 1 answerFilterRead tag params s
  | 66 => serveRequest 0 answerLabelQuery tag params s
  | 80 => serveRequest 6 answerClockSet tag params s
  | 81 => serveRequest 0 answerClockRead tag params s
  | 96 => serveRequest 15 answerRecordWrite tag params s
  | 97 => serveRequest 1 answerRecordRead tag params s
  | 98 => serveRequest 1 answerRecordClear tag params s
  | 99 => serveRequest 0 answerEngage tag params s
  | 100 => serveRequest 0 answerRelease tag params s
  | 112 => serveRequest 5 (answerLineAssign (s.pinOf (byteAt params 0))) tag params s
  | 113 => serveRequest 2 answerIndicator tag params s
  | 114 => serveRequest 2 answerPattern tag params s
  | 115 => serveRequest 0 answerLineQuery tag params s
  | 120 => serveRequest 1 answerStatus tag params s
  | 121 => serveRequest 3 answerParameterSet tag params s
  | 122 => serveRequest 1 answerParameterRead tag params s
  | 123 => serveResetRequest tag params s
  | _ => serveUnknown tag s

end Sys2Proof.Machine
end

