-- ==== Sys2Proof/Machine/Asked.lean ====
section
/-!
DEFINITION. The meanings of the requests (10.3): each with its number of parameter bytes (10.8) and its
owner's answer.
-/
namespace Sys2Proof.Machine

/-- R6 to R8. DECK_REQUEST. -/
def execDeckRequest (tag : Byte) (params : List Byte) (s : State) : Outcome :=
  serveRequest 2 answerDeck tag params s

/-- R77. CUE_SEEK. -/
def execCueSeek (tag : Byte) (params : List Byte) (s : State) : Outcome :=
  serveRequest 2 answerCueSeek tag params s

/-- R74. CUE_MARK. -/
def execCueMark (tag : Byte) (params : List Byte) (s : State) : Outcome :=
  serveRequest 0 answerCueMark tag params s

/-- R64. COUNTER_ZERO. -/
def execCounterZero (tag : Byte) (params : List Byte) (s : State) : Outcome :=
  serveRequest 0 answerCounterZero tag params s

/-- R69. TAPE_QUERY. -/
def execTapeQuery (tag : Byte) (params : List Byte) (s : State) : Outcome :=
  serveRequest 0 answerTapeQuery tag params s

/-- R87. DIRECTORY_READ. -/
def execDirectoryRead (tag : Byte) (params : List Byte) (s : State) : Outcome :=
  serveRequest 1 answerDirectoryRead tag params s

/-- R50. CASSETTE_ENTRY_WRITE. -/
def execCassetteEntryWrite (tag : Byte) (params : List Byte) (s : State) : Outcome :=
  serveRequest 19 answerCassetteWrite tag params s

/-- R51. CASSETTE_ENTRY_READ. -/
def execCassetteEntryRead (tag : Byte) (params : List Byte) (s : State) : Outcome :=
  serveRequest 1 answerCassetteRead tag params s

/-- R93. PRESET_WRITE. -/
def execPresetWrite (tag : Byte) (params : List Byte) (s : State) : Outcome :=
  serveRequest 18 answerPresetWrite tag params s

/-- R94. PRESET_READ. -/
def execPresetRead (tag : Byte) (params : List Byte) (s : State) : Outcome :=
  serveRequest 1 answerPresetRead tag params s

/-- R95, R96. TUNE_PRESET. -/
def execTunePreset (tag : Byte) (params : List Byte) (s : State) : Outcome :=
  serveRequest 1 answerTunePreset tag params s

/-- R95, R96. TUNE_FREQUENCY. -/
def execTuneFrequency (tag : Byte) (params : List Byte) (s : State) : Outcome :=
  serveRequest 4 answerTuneFrequency tag params s

/-- R95, R96. TUNE_STEP. -/
def execTuneStep (tag : Byte) (params : List Byte) (s : State) : Outcome :=
  serveRequest 1 answerTuneStep tag params s

/-- R95, R98. SEARCH. -/
def execSearch (tag : Byte) (params : List Byte) (s : State) : Outcome :=
  serveRequest 1 answerSearch tag params s

/-- R95, R101. INSTALL. -/
def execInstall (tag : Byte) (params : List Byte) (s : State) : Outcome :=
  serveRequest 1 answerInstall tag params s

/-- R95, R96. FINE_TUNE. -/
def execFineTune (tag : Byte) (params : List Byte) (s : State) : Outcome :=
  serveRequest 1 answerFineTune tag params s

/-- R89. BAND_LIMITS_WRITE. -/
def execBandLimitsWrite (tag : Byte) (params : List Byte) (s : State) : Outcome :=
  serveRequest 12 answerBandLimits tag params s

/-- R105. SOURCE_SELECT. -/
def execSourceSelect (tag : Byte) (params : List Byte) (s : State) : Outcome :=
  serveRequest 1 answerSourceSelect tag params s

/-- R106. TUNER_QUERY. -/
def execTunerQuery (tag : Byte) (params : List Byte) (s : State) : Outcome :=
  serveRequest 0 answerTunerQuery tag params s

/-- R112. FILTER_WRITE. -/
def execFilterWrite (tag : Byte) (params : List Byte) (s : State) : Outcome :=
  serveRequest 7 answerFilterWrite tag params s

/-- R113. FILTER_READ. -/
def execFilterRead (tag : Byte) (params : List Byte) (s : State) : Outcome :=
  serveRequest 1 answerFilterRead tag params s

/-- R125. LABEL_QUERY. -/
def execLabelQuery (tag : Byte) (params : List Byte) (s : State) : Outcome :=
  serveRequest 0 answerLabelQuery tag params s

/-- R130. CLOCK_SET. -/
def execClockSet (tag : Byte) (params : List Byte) (s : State) : Outcome :=
  serveRequest 6 answerClockSet tag params s

/-- R134. CLOCK_READ. -/
def execClockRead (tag : Byte) (params : List Byte) (s : State) : Outcome :=
  serveRequest 0 answerClockRead tag params s

/-- R137. RECORD_WRITE. -/
def execRecordWrite (tag : Byte) (params : List Byte) (s : State) : Outcome :=
  serveRequest 15 answerRecordWrite tag params s

/-- R138. RECORD_READ. -/
def execRecordRead (tag : Byte) (params : List Byte) (s : State) : Outcome :=
  serveRequest 1 answerRecordRead tag params s

/-- R138. RECORD_CLEAR. -/
def execRecordClear (tag : Byte) (params : List Byte) (s : State) : Outcome :=
  serveRequest 1 answerRecordClear tag params s

/-- R139. TIMER_ENGAGE. -/
def execTimerEngage (tag : Byte) (params : List Byte) (s : State) : Outcome :=
  serveRequest 0 answerEngage tag params s

/-- R140. TIMER_RELEASE. -/
def execTimerRelease (tag : Byte) (params : List Byte) (s : State) : Outcome :=
  serveRequest 0 answerRelease tag params s

/-- R164, R166. LINE_ASSIGN, with the reading of its line's pin. -/
def execLineAssign (tag : Byte) (params : AssignParams) (s : State) : Outcome :=
  serveRequest 5 (answerLineAssign params.pin) tag params.bytes s

/-- R167. INDICATOR_SET. -/
def execIndicatorSet (tag : Byte) (params : List Byte) (s : State) : Outcome :=
  serveRequest 2 answerIndicator tag params s

/-- R168. PATTERN_STAGE. -/
def execPatternStage (tag : Byte) (params : List Byte) (s : State) : Outcome :=
  serveRequest 2 answerPattern tag params s

/-- R169. LINE_QUERY. -/
def execLineQuery (tag : Byte) (params : List Byte) (s : State) : Outcome :=
  serveRequest 0 answerLineQuery tag params s

/-- R181. STATUS. -/
def execStatus (tag : Byte) (params : List Byte) (s : State) : Outcome :=
  serveRequest 1 answerStatus tag params s

/-- R182. PARAMETER_SET. -/
def execParameterSet (tag : Byte) (params : List Byte) (s : State) : Outcome :=
  serveRequest 3 answerParameterSet tag params s

/-- R184. PARAMETER_READ. -/
def execParameterRead (tag : Byte) (params : List Byte) (s : State) : Outcome :=
  serveRequest 1 answerParameterRead tag params s

/-- R185. RESET with the scope DECK, the inputs as the reset reads them. -/
def execResetDeck (tag : Byte) (pins : Pins) (s : State) : Outcome := serveReset true tag pins s

/-- R185. RESET with the scope ALL, the inputs as the reset reads them. -/
def execResetAll (tag : Byte) (pins : Pins) (s : State) : Outcome := serveReset false tag pins s

/-- R173. A request of a name none of 10.3; a name of that list is the request it names (log 29). -/
def execUnknownRequest (name tag : Byte) (params : List Byte) (s : State) : Outcome :=
  dispatch name tag params s

end Sys2Proof.Machine
end

