-- ==== Sys2Proof/Machine/Mechanism.lean ====
section
/-!
DEFINITION. The meanings of the commands that come from the mechanism: the sensors and the limits of the
transport (chapter 1), the motors and the servos (chapter 2), and the pulses of the tape (chapters 3
and 4).
-/
namespace Sys2Proof.Machine

/-! ### The transport -/

/-- R1: a sensor input with a new level. -/
def pinsWith (p : Pins) : SensorReading → Pins
  | .cam c => { p with cam := c }
  | .cassette b => { p with cassette := b }
  | .tab b => { p with tab := b }
  | .dew b => { p with dew := b }
  | .bot b => { p with bot := b }
  | .eot b => { p with eot := b }

/-- R1. A sensor or the cam switch has held a new value for 10 ms (log 7). -/
def execSensorSettled (r : SensorReading) (s : State) : Outcome :=
  event (sensorTakes r) { s with pins := pinsWith s.pins r }

/-- R2. The move timer runs out. -/
def execMoveTimeout (s : State) : Outcome := event moveTimesOut s

/-- R23, R24. The HALTED timer runs out. -/
def execHaltedTimeout (s : State) : Outcome := event haltedExpires s

/-- R24. The retry decay timer runs out. -/
def execRetryDecayExpiry (s : State) : Outcome := plainEvent retryDecays s

/-- R13. The lock timer of the lock wait runs out. -/
def execLockWaitTimeout (s : State) : Outcome := event lockWaitExpires s

/-- R14. The lock timer in RECORD runs out. -/
def execRecordLockTimeout (s : State) : Outcome := event recordLockExpires s

/-- R19. The stall timer runs out. -/
def execReelStall (s : State) : Outcome := event stallExpires s

/-- R20. The idle timer runs out. -/
def execIdleTimeout (s : State) : Outcome := event idleExpires s

/-- R21. The pause timer runs out. -/
def execPauseTimeout (s : State) : Outcome := event pauseExpires s

/-! ### Motors -/

/-- R30, R32. A PWM period starts; `v` is the supply sample taken in it. -/
def execPwmPeriodStart (v : Byte) (s : State) : Outcome :=
  event (startPeriod v.toNat) { s with pins := { s.pins with supply := v } }

/-- R34, R35. A channel's current-limit comparator becomes active. -/
def execOvercurrentTrip (dt : Tick) (c : Channel) (s : State) : Outcome :=
  event (fun x => tripMotor c (x.passes dt)) s

/-- R35. The 20 ms of a channel's recovery expire. -/
def execRecoveryEnd (c : Channel) (s : State) : Outcome := plainEvent (endRecovery c) s

/-! ### Servos -/

/-- R39. A pulse of the video frame pulse input. -/
def execVideoFramePulse (dt : Tick) (s : State) : Outcome :=
  event (fun x => videoPulse (x.passes dt)) s

/-- R39. The internal generator gives its pulse. -/
def execInternalFramePulse (s : State) : Outcome := event internalPulse s

/-- R40, R43. A drum PG pulse. -/
def execDrumPgPulse (dt : Tick) (s : State) : Outcome := event (fun x => drumPulse (x.passes dt)) s

/-- R52, R59: TAU's part of a capstan FG pulse. -/
def countFg (s : State) : Handed := (countFgStep (countFgRevs s), [])

/-- R40, R52, R59. A capstan FG pulse. DESIGN CHOICE (log 78): TAU has counted it when TC acts on the lock that it
gives (R48). -/
def execCapstanFgPulse (dt : Tick) (s : State) : Outcome :=
  event (fun x => andThen (capstanPulse (x.passes dt)) countFg) s

/-- R40. No measurement pulse of a loop has come within 4 target periods. -/
def execMissingPulseMeasurement (l : Loop) (s : State) : Outcome := event (missingPulse l) s

/-- R45, R46, R75: an edge of a CTL pulse while the control track is read (log 31, log 78). -/
def ctlEdge (e : Edge) (s : State) : Handed :=
  if s.tc.state.isReading then
    match e with
    | .rising => andThen (if s.tc.state = .play then playCtl s else (s, [])) risingEdge
    | .falling => (fallingEdge s, [])
  else (s, [])

/-- R45, R46, R75. An edge of a CTL pulse read from the tape. -/
def execCtlPulse (dt : Tick) (e : Edge) (s : State) : Outcome :=
  event (fun x => ctlEdge e (x.passes dt)) s

/-- R47. The CTL watchdog runs out. -/
def execCtlWatchdogExpiry (s : State) : Outcome := event watchdogExpires s

/-- R19, R52, R60. A pulse of a reel sensor. -/
def execReelPulse (dt : Tick) (r : Reel) (s : State) : Outcome :=
  event (fun x => tapeReelPulse r (restartStall r (x.passes dt))) s

end Sys2Proof.Machine
end

