-- ==== Sys2Proof/Machine/Stations.lean ====
section
/-!
DEFINITION. The meanings of the commands that come from the tuner, the data lines, the crystal and the
general lines (chapters 5 to 9).
-/
namespace Sys2Proof.Machine

/-! ### The tuner -/

/-- R90. The transfer of a word ends. -/
def execWordTransferEnd (s : State) : Outcome := plainEvent wordEnds s

/-- R92. The settling timer runs out. -/
def execSettlingExpiry (s : State) : Outcome := plainEvent settled s

/-- R97. The AFC timer runs out. -/
def execAfcTimerExpiry (low high : Bool) (s : State) : Outcome := plainEvent (afcExpires low high) s

/-- R98. SYNC_PRESENT is sampled. -/
def execSyncSample (present : Bool) (s : State) : Outcome := event (sampleSync present) s

/-- R99. The AFC window is read in fine stepping. -/
def execFineStepRead (low high : Bool) (s : State) : Outcome := event (readFineStep low high) s

/-- R102. The dwell runs out. -/
def execDwellExpiry (s : State) : Outcome := event dwellExpires s

/-! ### Data lines -/

/-- R109. A received packet of class DATA_LINE. -/
def execDataLinePacket (payload : List Byte) (s : State) : Outcome := event (takeDataLine payload) s

/-- R120. The loss timer runs out. -/
def execLossTimerExpiry (s : State) : Outcome := event lossExpires s

/-! ### The clock -/

/-- R127, R191: a second passes; off mains the clock alone takes it. -/
def secondOn (s : State) : Outcome :=
  if s.lku.supply = .mains then complete s (passSecond s) else .next (advanceClock s)

/-- R127. The prescaler completes a second. -/
def execSecondPasses (s : State) : Outcome := secondOn s

/-- R127: one cycle of the 32,768 Hz crystal, which runs whatever is commanded (log 2). -/
def idle (s : State) : Outcome :=
  if s.cku.prescaler + 1 < 32768 then
    .next { s with cku := { s.cku with prescaler := s.cku.prescaler + 1 } }
  else secondOn s

/-- R153: the passing second is the one at which the hold count reaches 0 (log 27). -/
def holdCountEnds (s : State) : Bool :=
  match s.holder with
  | some (_, r) => r.state == .starting && r.startCount.isNone && r.holdCount == some 1
  | none => false

/-- R153. The second passes at which the hold count reaches 0. -/
def execHoldCountExpiry (s : State) : Outcome :=
  if holdCountEnds s then event passSecond s else .next s

/-- R149: the passing second is the one at which the start count reaches 0 (log 27). -/
def startCountEnds (s : State) : Bool :=
  match s.holder with
  | some (_, r) => r.state == .starting && r.startCount == some 1 && !r.recalled
  | none => false

/-- R149. The second passes at which the start count reaches 0. -/
def execStartCountExpiry (s : State) : Outcome :=
  if startCountEnds s then event passSecond s else .next s

/-! ### The general lines -/

/-- R164. The pin of a line has held a new level for 10 ms (log 7). -/
def execLineInputSettled (line : Fin 8) (level : PinLevel) (s : State) : Outcome :=
  event (lineSettles line.val level)
    { s with pins := { s.pins with lines := putAt s.pins.lines line.val level } }

end Sys2Proof.Machine
end

