-- ==== Sys2Proof/Machine/Wire.lean ====
section
/-!
DEFINITION. The meanings of the commands of the links (chapter 10) and of the mains (chapter 11).
-/
namespace Sys2Proof.Machine

/-! ### The links -/

/-- R171. A byte that discards the packet being received. -/
def execPacketDiscard (f : PacketFault) (s : State) : Outcome := plainEvent (discardPacket f) s

/-- R171. The gap timer runs out. -/
def execGapTimerExpiry (s : State) : Outcome := plainEvent gapExpires s

/-- R176: the transmitter is idle again. -/
def endTransmission (s : State) : State := { s with lku := { s.lku with tx := none } }

/-- R176. The packet in transmission has been sent. -/
def execTransmissionEnd (s : State) : Outcome := plainEvent endTransmission s

/-- R176: the hold input at a level. -/
def setHold (active : Bool) (s : State) : State := { s with lku := { s.lku with hold := active } }

/-- R176. The hold input becomes active or inactive. -/
def execHoldInputChange (active : Bool) (s : State) : Outcome :=
  plainEvent (fun x => x) (setHold active s)

/-- R171: what a byte taken leads to; the receiver stands in `s` as it left it. -/
def afterByte (got : Received) (s : State) : Outcome :=
  match got with
  | .nothing => .next (publish s s)
  | .fault => .next (publish s (latch .linkError s))
  | .dataLine p => complete s (takeDataLine p s)
  | .request p => dispatch (p.getD 0 0) (p.getD 1 0) (p.drop 2) s

/-- R171, R187. The inbound receiver takes one byte; the inputs as they read then (log 7). -/
def execInboundByte (b : LinkByte) (s : State) : Outcome :=
  if s.lku.supply = .mains then
    let r := s.lku.rx.take b.value s.now
    afterByte r.2 (withRx r.1 { s with pins := b.pins })
  else .next s

/-! ### The mains -/

/-- R187: the supply state with the return timer. -/
def setSupply (v : SupplyState) (timer : Option Tick) (s : State) : State :=
  { s with lku := { s.lku with supply := v, returnTimer := timer } }

/-- R187, R192. The mains-fail input becomes asserted. -/
def execMainsFailAssert (s : State) : Outcome :=
  match s.lku.supply with
  | .mains => .next (powerFailStop s)
  | .returning => .next (setSupply .failed none s)
  | .failed => .next s

/-- R192. The mains-fail input becomes deasserted. -/
def execMainsFailDeassert (s : State) : Outcome :=
  match s.lku.supply with
  | .failed => .next (setSupply .returning (s.after (secs 1)) s)
  | .mains | .returning => .next s

/-- R192. The return timer runs out; the inputs as the start reads them. -/
def execReturnTimerExpiry (pins : Pins) (s : State) : Outcome :=
  if s.lku.supply = .returning ∧ s.lku.returnTimer.isSome = true then
    completeStart (returnExpires pins s)
  else .next s

end Sys2Proof.Machine
end

