-- ==== Sys2Proof/Machine/Dispatch.lean ====
section
/-!
DEFINITION. The dispatch: one arm for each command, in the order of the opcode table.
-/
namespace Sys2Proof.Machine

def exec (i : Instr) (s : State) : Host.Outcome State Fault Refusal :=
  match i with
  | .sensorSettled r => Sys2Proof.Machine.execSensorSettled r s
  | .moveTimeout => Sys2Proof.Machine.execMoveTimeout s
  | .haltedTimeout => Sys2Proof.Machine.execHaltedTimeout s
  | .retryDecayExpiry => Sys2Proof.Machine.execRetryDecayExpiry s
  | .lockWaitTimeout => Sys2Proof.Machine.execLockWaitTimeout s
  | .recordLockTimeout => Sys2Proof.Machine.execRecordLockTimeout s
  | .reelStall => Sys2Proof.Machine.execReelStall s
  | .idleTimeout => Sys2Proof.Machine.execIdleTimeout s
  | .pauseTimeout => Sys2Proof.Machine.execPauseTimeout s
  | .pwmPeriodStart v => Sys2Proof.Machine.execPwmPeriodStart v s
  | .overcurrentTrip dt c => Sys2Proof.Machine.execOvercurrentTrip dt c s
  | .recoveryEnd c => Sys2Proof.Machine.execRecoveryEnd c s
  | .videoFramePulse dt => Sys2Proof.Machine.execVideoFramePulse dt s
  | .internalFramePulse => Sys2Proof.Machine.execInternalFramePulse s
  | .drumPgPulse dt => Sys2Proof.Machine.execDrumPgPulse dt s
  | .capstanFgPulse dt => Sys2Proof.Machine.execCapstanFgPulse dt s
  | .missingPulseMeasurement l => Sys2Proof.Machine.execMissingPulseMeasurement l s
  | .ctlPulse dt e => Sys2Proof.Machine.execCtlPulse dt e s
  | .ctlWatchdogExpiry => Sys2Proof.Machine.execCtlWatchdogExpiry s
  | .reelPulse dt r => Sys2Proof.Machine.execReelPulse dt r s
  | .wordTransferEnd => Sys2Proof.Machine.execWordTransferEnd s
  | .settlingExpiry => Sys2Proof.Machine.execSettlingExpiry s
  | .afcTimerExpiry low high => Sys2Proof.Machine.execAfcTimerExpiry low high s
  | .syncSample present => Sys2Proof.Machine.execSyncSample present s
  | .fineStepRead low high => Sys2Proof.Machine.execFineStepRead low high s
  | .dwellExpiry => Sys2Proof.Machine.execDwellExpiry s
  | .dataLinePacket payload => Sys2Proof.Machine.execDataLinePacket payload s
  | .lossTimerExpiry => Sys2Proof.Machine.execLossTimerExpiry s
  | .secondPasses => Sys2Proof.Machine.execSecondPasses s
  | .holdCountExpiry => Sys2Proof.Machine.execHoldCountExpiry s
  | .startCountExpiry => Sys2Proof.Machine.execStartCountExpiry s
  | .lineInputSettled line level => Sys2Proof.Machine.execLineInputSettled line level s
  | .deckRequest tag params => Sys2Proof.Machine.execDeckRequest tag params s
  | .cueSeek tag params => Sys2Proof.Machine.execCueSeek tag params s
  | .cueMark tag params => Sys2Proof.Machine.execCueMark tag params s
  | .counterZero tag params => Sys2Proof.Machine.execCounterZero tag params s
  | .tapeQuery tag params => Sys2Proof.Machine.execTapeQuery tag params s
  | .directoryRead tag params => Sys2Proof.Machine.execDirectoryRead tag params s
  | .cassetteEntryWrite tag params => Sys2Proof.Machine.execCassetteEntryWrite tag params s
  | .cassetteEntryRead tag params => Sys2Proof.Machine.execCassetteEntryRead tag params s
  | .presetWrite tag params => Sys2Proof.Machine.execPresetWrite tag params s
  | .presetRead tag params => Sys2Proof.Machine.execPresetRead tag params s
  | .tunePreset tag params => Sys2Proof.Machine.execTunePreset tag params s
  | .tuneFrequency tag params => Sys2Proof.Machine.execTuneFrequency tag params s
  | .tuneStep tag params => Sys2Proof.Machine.execTuneStep tag params s
  | .search tag params => Sys2Proof.Machine.execSearch tag params s
  | .install tag params => Sys2Proof.Machine.execInstall tag params s
  | .fineTune tag params => Sys2Proof.Machine.execFineTune tag params s
  | .bandLimitsWrite tag params => Sys2Proof.Machine.execBandLimitsWrite tag params s
  | .sourceSelect tag params => Sys2Proof.Machine.execSourceSelect tag params s
  | .tunerQuery tag params => Sys2Proof.Machine.execTunerQuery tag params s
  | .filterWrite tag params => Sys2Proof.Machine.execFilterWrite tag params s
  | .filterRead tag params => Sys2Proof.Machine.execFilterRead tag params s
  | .labelQuery tag params => Sys2Proof.Machine.execLabelQuery tag params s
  | .clockSet tag params => Sys2Proof.Machine.execClockSet tag params s
  | .clockRead tag params => Sys2Proof.Machine.execClockRead tag params s
  | .recordWrite tag params => Sys2Proof.Machine.execRecordWrite tag params s
  | .recordRead tag params => Sys2Proof.Machine.execRecordRead tag params s
  | .recordClear tag params => Sys2Proof.Machine.execRecordClear tag params s
  | .timerEngage tag params => Sys2Proof.Machine.execTimerEngage tag params s
  | .timerRelease tag params => Sys2Proof.Machine.execTimerRelease tag params s
  | .lineAssign tag params => Sys2Proof.Machine.execLineAssign tag params s
  | .indicatorSet tag params => Sys2Proof.Machine.execIndicatorSet tag params s
  | .patternStage tag params => Sys2Proof.Machine.execPatternStage tag params s
  | .lineQuery tag params => Sys2Proof.Machine.execLineQuery tag params s
  | .status tag params => Sys2Proof.Machine.execStatus tag params s
  | .parameterSet tag params => Sys2Proof.Machine.execParameterSet tag params s
  | .parameterRead tag params => Sys2Proof.Machine.execParameterRead tag params s
  | .resetDeck tag pins => Sys2Proof.Machine.execResetDeck tag pins s
  | .resetAll tag pins => Sys2Proof.Machine.execResetAll tag pins s
  | .unknownRequest name tag params => Sys2Proof.Machine.execUnknownRequest name tag params s
  | .packetDiscard f => Sys2Proof.Machine.execPacketDiscard f s
  | .gapTimerExpiry => Sys2Proof.Machine.execGapTimerExpiry s
  | .transmissionEnd => Sys2Proof.Machine.execTransmissionEnd s
  | .holdInputChange active => Sys2Proof.Machine.execHoldInputChange active s
  | .mainsFailAssert => Sys2Proof.Machine.execMainsFailAssert s
  | .mainsFailDeassert => Sys2Proof.Machine.execMainsFailDeassert s
  | .returnTimerExpiry pins => Sys2Proof.Machine.execReturnTimerExpiry pins s
  | .inboundByte b => Sys2Proof.Machine.execInboundByte b s

end Sys2Proof.Machine
end

