-- ==== Sys2Proof/Safety.lean ====
section
/-!
DEFINITION. What counts as a safe run, and the words the statements use: when a request is answered at
once, what a command leaves when its reports and its reply are built, and the laws of the manual that
every state between two commands keeps.
-/
namespace Sys2Proof.Machine

/-! ### The words of the statements -/

/-- Mains is present and no request waits for its reply: a request is handed to its owner (R173, R174,
R187). `wanted` is the model's own field, empty between two commands (log 6). -/
abbrev State.ready (s : State) : Prop :=
  s.lku.supply = .mains ∧ replyWaiting s = false ∧ s.lku.wanted = []

/-- R173, R177: what a request that led from `s` to `t` leaves: the reports of what changed, then the
reply, then the transmitter. Only the queue, the packet in transmission and `wanted` differ
from `t`. -/
def answered (tag : Byte) (clamped : Bool) (r : Results) (s t : State) : State :=
  let u := joinReply ⟨tag, none, clamped, r⟩ (syncReports s t)
  publish u u

/-- R173: what a request that changes nothing leaves: its reply, DONE, has joined the queue. -/
def replied (tag : Byte) (r : Results) (s : State) : State :=
  startTransmission (joinReply ⟨tag, none, false, r⟩ s)

/-- R173: what a refused request leaves: its reply, REFUSED with its reason, has joined the queue. -/
def refusedWith (tag : Byte) (why : Reason) (s : State) : State :=
  startTransmission (joinReply ⟨tag, some why, false, .none⟩ s)

/-- A reply stands in the queue, or is being sent. -/
abbrev State.holdsReply (r : Reply) (s : State) : Prop :=
  Packet.reply r ∈ s.lku.queue ∨ s.lku.tx = some (.reply r)

/-- No timer record holds the deck claim, and no slot is ARMED or DEFERRED: the Programme Timer does
nothing at a passing second or a jump. -/
abbrev State.timerQuiet (s : State) : Prop :=
  s.pgt.claim = none ∧
    ∀ n ∈ slots, (s.slot n).state ≠ .armed ∧ (s.slot n).state ≠ .deferred

/-- Every field but the outbound queue, the packet in transmission and the report requests. -/
def sameButQueue (a b : State) : Prop :=
  a = { b with lku := { b.lku with queue := a.lku.queue, tx := a.lku.tx, wanted := a.lku.wanted } }

/-- From `a` to `b` nothing has changed but the deck: the Transport Controller, the motors, the servos,
the tape accounting beside its cassette table, the conditions, the moment, and the outbound queue. -/
def onlyDeck (a b : State) : Prop :=
  b = { a with
    tc := b.tc, mdu := b.mdu, svu := b.svu, tau := { b.tau with table := a.tau.table }, now := b.now
    lku := { a.lku with
      queue := b.lku.queue, tx := b.lku.tx, wanted := b.lku.wanted, latched := b.lku.latched
      live := b.lku.live } }

/-- From `a` to `b` nothing has changed but the tuning: the Tuner Unit beside its preset and band
limit tables, what the data lines have given on the old tuning, and the outbound queue. -/
def onlyTuning (a b : State) : Prop :=
  b = { a with
    tnu := { b.tnu with presets := a.tnu.presets, limits := a.tnu.limits }
    dlp := { b.dlp with filter := a.dlp.filter, dropped := a.dlp.dropped }
    lku := { a.lku with queue := b.lku.queue, tx := b.lku.tx, wanted := b.lku.wanted } }

/-- The settled values with a new reading (R1). -/
def Sensors.taking (n : Sensors) : SensorReading → Sensors
  | .cam c => { n with cam := c }
  | .cassette p => { n with cassette := p }
  | .tab p => { n with tab := p }
  | .dew a => { n with dew := a }
  | .bot a => { n with bot := a }
  | .eot a => { n with eot := a }

/-- Nothing but the settled value follows from a reading in a transport state: no cam move runs and no
eject attempt is made, no cassette is put in, dew goes, or the tape does not move. -/
def followsNothing (r : SensorReading) (st : TState) : Prop :=
  match r with
  | .cam _ => st.transient = false ∧ st ≠ .lockedOut
  | .cassette p => st ≠ .empty ∨ p = false
  | .tab _ => True
  | .dew a => a = false
  | .bot _ | .eot _ => st.isDrive = false ∧ st.isWind = false

/-- R27, R13: neither the start-up move nor the lock wait is running, and no timer record holds the
deck claim. -/
abbrev State.plain (s : State) : Prop :=
  s.tc.startUp = false ∧ s.tc.lockWait = false ∧ s.pgt.claim = none

/-- R90, R91, R92, R118, R121, R124: what a tune leaves: SETTLING on a source with its base divider and
fine offset, AFC at 0, the word sent or waiting for the one in transfer, and what the data lines gave on
the old tuning gone. -/
def settlesOn (src : TunedSource) (base fine : Int) (s t : State) : Prop :=
  let band := s.tnu.limits.bandFor base
  t.tnu.state = .settling ∧ t.tnu.source = src ∧ t.tnu.base = some base ∧ t.tnu.fine = fine
    ∧ t.tnu.afc = 0 ∧ t.tnu.band = some band
    ∧ t.tnu.settleTimer = some (s.now + 80000) ∧ t.tnu.afcTimer = none
    ∧ (s.tnu.wordTimer = none →
        t.tnu.word = some ⟨band, base + fine⟩ ∧ t.tnu.wordTimer = some (s.now + 180)
          ∧ t.tnu.bandOut = some band)
    ∧ (s.tnu.wordTimer.isSome = true →
        t.tnu.word = s.tnu.word ∧ t.tnu.wordTimer = s.tnu.wordTimer ∧ t.tnu.wordPending = true)
    ∧ t.dlp.tracker = .noLabel ∧ t.dlp.proposal = none ∧ t.dlp.lossTimer = none
    ∧ t.dlp.learnCode = none ∧ t.dlp.learnCount = 0 ∧ t.dlp.candidate = none
    ∧ onlyTuning s t

/-- R187: the commands that act only while mains is present. The others are the inputs whose level the
model keeps (log 7), the crystal, and the mains itself. -/
def needsMains : Instr → Bool
  | .sensorSettled _ | .pwmPeriodStart _ | .lineInputSettled _ _ | .secondPasses
  | .holdInputChange _ | .mainsFailAssert | .mainsFailDeassert | .returnTimerExpiry _ => false
  | _ => true

/-- The requests of 10.3 with their number of parameter bytes (10.8): the tag, the parameters and the
number. RESET stands in the table as two rows that carry their scope already (log 29). -/
def requestOf : Instr → Option (Byte × List Byte × Nat)
  | .deckRequest t p => some (t, p, 2)
  | .cueSeek t p => some (t, p, 2)
  | .cueMark t p => some (t, p, 0)
  | .counterZero t p => some (t, p, 0)
  | .tapeQuery t p => some (t, p, 0)
  | .directoryRead t p => some (t, p, 1)
  | .cassetteEntryWrite t p => some (t, p, 19)
  | .cassetteEntryRead t p => some (t, p, 1)
  | .presetWrite t p => some (t, p, 18)
  | .presetRead t p => some (t, p, 1)
  | .tunePreset t p => some (t, p, 1)
  | .tuneFrequency t p => some (t, p, 4)
  | .tuneStep t p => some (t, p, 1)
  | .search t p => some (t, p, 1)
  | .install t p => some (t, p, 1)
  | .fineTune t p => some (t, p, 1)
  | .bandLimitsWrite t p => some (t, p, 12)
  | .sourceSelect t p => some (t, p, 1)
  | .tunerQuery t p => some (t, p, 0)
  | .filterWrite t p => some (t, p, 7)
  | .filterRead t p => some (t, p, 1)
  | .labelQuery t p => some (t, p, 0)
  | .clockSet t p => some (t, p, 6)
  | .clockRead t p => some (t, p, 0)
  | .recordWrite t p => some (t, p, 15)
  | .recordRead t p => some (t, p, 1)
  | .recordClear t p => some (t, p, 1)
  | .timerEngage t p => some (t, p, 0)
  | .timerRelease t p => some (t, p, 0)
  | .lineAssign t p => some (t, p.bytes, 5)
  | .indicatorSet t p => some (t, p, 2)
  | .patternStage t p => some (t, p, 2)
  | .lineQuery t p => some (t, p, 0)
  | .status t p => some (t, p, 1)
  | .parameterSet t p => some (t, p, 3)
  | .parameterRead t p => some (t, p, 1)
  | _ => none

/-- 10.3: the request name byte of a request. -/
def requestName : Instr → Option Byte
  | .deckRequest _ _ => some 0x10
  | .cueSeek _ _ => some 0x20
  | .cueMark _ _ => some 0x21
  | .counterZero _ _ => some 0x22
  | .tapeQuery _ _ => some 0x23
  | .directoryRead _ _ => some 0x24
  | .cassetteEntryWrite _ _ => some 0x25
  | .cassetteEntryRead _ _ => some 0x26
  | .presetWrite _ _ => some 0x30
  | .presetRead _ _ => some 0x31
  | .tunePreset _ _ => some 0x32
  | .tuneFrequency _ _ => some 0x33
  | .tuneStep _ _ => some 0x34
  | .search _ _ => some 0x35
  | .install _ _ => some 0x36
  | .fineTune _ _ => some 0x37
  | .bandLimitsWrite _ _ => some 0x38
  | .sourceSelect _ _ => some 0x39
  | .tunerQuery _ _ => some 0x3A
  | .filterWrite _ _ => some 0x40
  | .filterRead _ _ => some 0x41
  | .labelQuery _ _ => some 0x42
  | .clockSet _ _ => some 0x50
  | .clockRead _ _ => some 0x51
  | .recordWrite _ _ => some 0x60
  | .recordRead _ _ => some 0x61
  | .recordClear _ _ => some 0x62
  | .timerEngage _ _ => some 0x63
  | .timerRelease _ _ => some 0x64
  | .lineAssign _ _ => some 0x70
  | .indicatorSet _ _ => some 0x71
  | .patternStage _ _ => some 0x72
  | .lineQuery _ _ => some 0x73
  | .status _ _ => some 0x78
  | .parameterSet _ _ => some 0x79
  | .parameterRead _ _ => some 0x7A
  | .resetDeck _ _ => some 0x7B
  | .resetAll _ _ => some 0x7B
  | _ => none

/-! ### The laws -/

/-- R15: the record gate is active only in RECORD with the record tab present. -/
def GateLaw (s : State) : Prop :=
  s.tc.gate = true → s.tc.state = .record ∧ s.tau.record.map Cassette.tab = some .yes

/-- R25: the loading retry count lies between 0 and 3 and equals 3 exactly in LOCKED_OUT. R24: a failed
move that stands recorded is a cam move. -/
def RetryLaw (s : State) : Prop :=
  s.tc.retryCount ≤ 3 ∧ (s.tc.retryCount = 3 ↔ s.tc.state = .lockedOut)
    ∧ ∀ m ∈ s.tc.failedMove, m.transient = true

/-- R175: the shares of the outbound queue. -/
def QueueLaw (s : State) : Prop :=
  copiesWaiting s.lku.queue ≤ 16 ∧ (s.lku.queue.filter Packet.isReply).length ≤ 1 ∧
    ∀ k ∈ ReportKind.all, (s.lku.queue.filter (Packet.isReport k)).length ≤ 1

/-- R166: an event other than NULL stands on at most one of the eight lines. -/
def LinesLaw (s : State) : Prop :=
  s.lnu.lines.length = 8 ∧
    ∀ i < 8, ∀ j < 8, i ≠ j → (s.line i).event ≠ .null → (s.line i).event ≠ (s.line j).event

/-- R81, R86: at most 16 entries, in strictly ascending start order, and no start within the range of
another entry. The entry in progress is the one TIMER or MANUAL entry without an end; it stands in the
directory while a recording is open and the position is known. -/
def DirectoryLaw (s : State) : Prop :=
  s.tau.directory.length ≤ 16 ∧ s.tau.directory.Pairwise (fun a b => a.start < b.start) ∧
    (∀ a ∈ s.tau.directory, ∀ b ∈ s.tau.directory,
      a.start ≠ b.start → a.covers (s.tau.grownOf a) b.start = false) ∧
    (∀ a ∈ s.tau.directory, a.origin ≠ .found → a.stop = none → s.tau.inProgress = some a.start) ∧
    ∀ q ∈ s.tau.inProgress,
      s.tc.openRec = true ∧ s.tau.position.isSome = true ∧
        ∃ a ∈ s.tau.directory, a.start = q ∧ a.stop = none ∧ a.origin ≠ .found

/-- R187, R188, R190: while mains is absent nothing is driven and nothing is sent. -/
def OutageLaw (s : State) : Prop :=
  s.lku.supply ≠ .mains →
    s.tc.state = .powerDown ∧ s.tc.gate = false ∧ motorsRun s = false ∧ s.svu.drumTarget = .off
      ∧ s.svu.capTarget = .off ∧ s.svu.drum.lock = .unlocked ∧ s.svu.cap.lock = .unlocked
      ∧ s.lku.queue = [] ∧ s.lku.tx = none ∧ s.lku.latched = []

/-- R127, R128: the clock holds a real date and time of the calendar, and the prescaler counts the
crystal's cycles of one second. -/
def ClockLaw (s : State) : Prop := s.cku.now.valid = true ∧ s.cku.prescaler < 32768

/-- R91, R98, R101: the timers of a scan run in SEARCHING and INSTALLING alone, a dwell in INSTALLING,
and settling in neither. -/
def ScanLaw (s : State) : Prop :=
  (s.tnu.scanning = false → s.tnu.scanTimer = none ∧ s.tnu.dwellTimer = none) ∧
    (s.tnu.scanning = true → s.tnu.settleTimer = none) ∧
    (s.tnu.state = .searching → s.tnu.dwellTimer = none)

/-- R142: the record in an active state is the holder of the deck claim, so at most one record is active;
none is while mains is absent (R189). R104: the tuner is TIMER-owned exactly while the holder's source is
a preset, and then it is on that preset. -/
def ClaimLaw (s : State) : Prop :=
  s.pgt.records.length = 16 ∧
    (∀ n ∈ slots, (s.slot n).state.active = true → s.pgt.claim = some n) ∧
    (∀ n ∈ s.pgt.claim, n ∈ slots ∧ (s.slot n).state.active = true ∧ s.pgt.engaged = true
      ∧ s.lku.supply = .mains) ∧
    (∀ n ∈ s.pgt.claim, ∀ p, (s.slot n).source = .preset p →
      s.tnu.owner = .timer ∧ s.tnu.isOn p = true) ∧
    (s.tnu.owner = .timer → ∃ n ∈ s.pgt.claim, (s.slot n).source ≠ .external) ∧
    ScanLaw s

/-- A safe state: every law holds in it. -/
def State.safe (s : State) : Prop :=
  GateLaw s ∧ RetryLaw s ∧ QueueLaw s ∧ LinesLaw s ∧ DirectoryLaw s ∧ OutageLaw s ∧ ClockLaw s
    ∧ ClaimLaw s

end Sys2Proof.Machine
end

