-- ==== Sys2Proof/Certificates/Slice0/Obligations.lean ====
section
/-!
DEFINITION. The statements for the provers: what the manual says each command and the part as a whole
do. OBLIGATIONS.json lists them in this order.
-/

open Sys2Proof Sys2Proof.Machine

/-- A step runs the command at the front of the queue; with none it is a cycle of the crystal (log 2)
(derived: 00_scope.md, 07_clock_and_calendar.md 7.1). -/
def Obligations.StepRunsFrontCommand : Prop :=
  (∀ (c : Instr) (s : State), step { s with pending := c :: s.pending } = exec c s)
    ∧ (∀ s : State, s.pending = [] →
       (s.cku.prescaler < 32767 →
           step s = .next { s with cku := { s.cku with prescaler := s.cku.prescaler + 1 } })
         ∧ (32767 ≤ s.cku.prescaler → step s = exec .secondPasses s))

/-- The state after reset holds the start values of a cold start, and every law of Safety holds in it
(derived: 11_mains_failure_and_warm_start.md 11.3). -/
def Obligations.ResetGivesStartValues : Prop :=
  State.reset.tc.state = .empty ∧ State.reset.tc.goal = some ⟨.stop, .unthreadedStop⟩
    ∧ State.reset.tc.retryCount = 0 ∧ State.reset.tc.gate = false
    ∧ motorsRun State.reset = false ∧ State.reset.svu.drumTarget = .off
    ∧ State.reset.svu.capTarget = .off ∧ State.reset.svu.drum.lock = .unlocked
    ∧ State.reset.svu.cap.lock = .unlocked
    ∧ State.reset.tau.record = none ∧ State.reset.tau.directory = []
    ∧ State.reset.tau.table = List.replicate 8 none
    ∧ State.reset.tnu.state = .idle ∧ State.reset.tnu.presets = List.replicate 60 none
    ∧ State.reset.tnu.limits = ⟨⟨1456, 3424⟩, ⟨3440, 8144⟩, ⟨8160, 14544⟩⟩
    ∧ State.reset.dlp.filter = List.replicate 8 none ∧ State.reset.dlp.tracker = .noLabel
    ∧ State.reset.cku.now = ⟨1, 1, 2000, 0, 0, 0⟩ ∧ State.reset.cku.state = .unset
    ∧ (∀ n ∈ slots, (State.reset.slot n).state = .empty)
    ∧ State.reset.pgt.engaged = false ∧ State.reset.pgt.claim = none
    ∧ (∀ i < 8, State.reset.line i = ⟨false, .null, false, .high⟩)
    ∧ State.reset.lku.params = Params.default ∧ State.reset.lku.latched = [.clockLost]
    ∧ State.reset.lku.cause = .cold ∧ State.reset.lku.supply = .mains
    ∧ State.reset.pending = [] ∧ State.reset.safe

/-- The record gate stays off outside RECORD and without the record tab (derived: 01_tape_transport.md
1.6 (the record gate)). -/
def Obligations.GateLawHolds : Prop :=
  ∀ s t : State, GateLaw s → step s = .next t → GateLaw t

/-- The loading retry count stays within 0 to 3 and is 3 exactly in LOCKED_OUT (derived:
01_tape_transport.md 1.10 (the loading retry count)). -/
def Obligations.RetryLawHolds : Prop :=
  ∀ s t : State, RetryLaw s → step s = .next t → RetryLaw t

/-- The outbound queue stays within the share of each kind of packet (derived:
10_links_requests_and_reports.md 10.4 (the outbound queue)). -/
def Obligations.QueueLawHolds : Prop :=
  ∀ s t : State, QueueLaw s → step s = .next t → QueueLaw t

/-- An event other than NULL stays on at most one general line (derived:
09_general_lines_and_indicators.md 9.4). -/
def Obligations.LinesLawHolds : Prop :=
  ∀ s t : State, LinesLaw s → step s = .next t → LinesLaw t

/-- The cassette directory stays in order, within 16 entries, with at most one TIMER or MANUAL entry
open (derived: 04_cue_marks_and_the_cassette_directory.md 4.4, 01_tape_transport.md 1.6). -/
def Obligations.DirectoryLawHolds : Prop :=
  ∀ s t : State, DirectoryLaw s → step s = .next t → DirectoryLaw t

/-- While mains is absent nothing is driven and nothing is sent; no condition is latched (log 44)
(derived: 11_mains_failure_and_warm_start.md 11.1). -/
def Obligations.OutageLawHolds : Prop :=
  ∀ s t : State, OutageLaw s → step s = .next t → OutageLaw t

/-- The clock always holds a date and time of the calendar (derived: 07_clock_and_calendar.md 7.1). -/
def Obligations.ClockLawHolds : Prop :=
  ∀ s t : State, ClockLaw s → step s = .next t → ClockLaw t

/-- At most one timer record is active and it holds the deck claim; its preset's tuner is TIMER-owned
(derived: 08_programme_timer.md 8.3, 05_tuner_and_presets.md 5.8, 05_tuner_and_presets.md 5.6,
11_mains_failure_and_warm_start.md 11.1). -/
def Obligations.ClaimLawHolds : Prop :=
  ∀ s t : State, ClaimLaw s → step s = .next t → ClaimLaw t

/-- LOCKED_OUT is left only at the power-fail stop, a start or a reset (derived: 01_tape_transport.md
1.10 (lock-out)). -/
def Obligations.LockedOutIsKept : Prop :=
  ∀ (c : Instr) (s t : State), s.tc.state = .lockedOut → exec c s = .next t →
    (match c with
      | .mainsFailAssert | .returnTimerExpiry _ | .resetDeck _ _ | .resetAll _ _
      | .inboundByte _ => False
      | .unknownRequest name _ _ => name ≠ 0x7B
      | _ => True) →
    t.tc.state = .lockedOut

/-- A reply and the reports touch the outbound queue and the transmitter alone, and the reply is there
(derived: 10_links_requests_and_reports.md 10.2, 10_links_requests_and_reports.md 10.4,
10_links_requests_and_reports.md 10.5). -/
def Obligations.RepliesAndReportsKeepTheRest : Prop :=
  (∀ a b : State, sameButQueue (publish a b) b)
    ∧ (∀ (tag : Byte) (clamped : Bool) (r : Results) (a b : State),
        sameButQueue (answered tag clamped r a b) b
          ∧ (answered tag clamped r a b).holdsReply ⟨tag, none, clamped, r⟩)
    ∧ (∀ (tag : Byte) (r : Results) (s : State),
        sameButQueue (replied tag r s) s ∧ (replied tag r s).holdsReply ⟨tag, none, false, r⟩)
    ∧ ∀ (tag : Byte) (why : Reason) (s : State),
        sameButQueue (refusedWith tag why s) s
          ∧ (refusedWith tag why s).holdsReply ⟨tag, some why, false, .none⟩

/-- A request is discarded while a reply waits, and refused for a wrong length or an unknown name
(derived: 10_links_requests_and_reports.md 10.2, 10_links_requests_and_reports.md 10.8). -/
def Obligations.RequestsTurnedAway : Prop :=
  ((∀ s : State, s.lku.supply = .mains → replyWaiting s = true →
       (∀ c x, requestOf c = some x → exec c s = .next (publish s (latch .requestOverrun s)))
         ∧ ∀ (name tag : Byte) (params : List Byte) (pins : Pins),
             exec (.unknownRequest name tag params) s = .next (publish s (latch .requestOverrun s))
               ∧ exec (.resetDeck tag pins) s = .next (publish s (latch .requestOverrun s))
               ∧ exec (.resetAll tag pins) s = .next (publish s (latch .requestOverrun s)))
     ∧ ∀ (s : State) (r : Reply) (tag : Byte), s.ready → s.lku.tx = some (.reply r) →
         exec (.unknownRequest 0x00 tag []) s = .next (refusedWith tag .unknownRequest s))
    ∧ (∀ s : State, s.ready →
       (∀ c tag params n, requestOf c = some (tag, params, n) → params.length ≠ n →
           exec c s = .next (refusedWith tag .badLength s))
         ∧ ∀ (name tag : Byte) (params : List Byte),
             (∀ c, requestName c ≠ some name) →
               exec (.unknownRequest name tag params) s = .next (refusedWith tag .unknownRequest s))

/-- Each request name byte reaches the request of its row in 10.3 (derived:
10_links_requests_and_reports.md 10.3). -/
def Obligations.RequestNamesReachTheirOwners : Prop :=
  ∀ s : State,
    (∀ c tag params n name, requestOf c = some (tag, params, n) → requestName c = some name →
        (∀ t p, c = .lineAssign t p → p.pin = s.pinOf (byteAt p.bytes 0)) →
        exec (.unknownRequest name tag params) s = exec c s)
      ∧ ∀ tag : Byte,
          exec (.unknownRequest 0x7B tag [0]) s = exec (.resetDeck tag s.pins) s
            ∧ exec (.unknownRequest 0x7B tag [1]) s = exec (.resetAll tag s.pins) s
            ∧ ∀ b : Byte, 2 ≤ b.toNat → s.ready →
                exec (.unknownRequest 0x7B tag [b]) s = .next (refusedWith tag .badParameter s)

/-- Each reading request answers what stands and changes nothing (derived:
10_links_requests_and_reports.md 10.2, 03_tape_accounting.md 3.2, 03_tape_accounting.md 3.8,
04_cue_marks_and_the_cassette_directory.md 4.5, 05_tuner_and_presets.md 5.3,
05_tuner_and_presets.md 5.9, 06_broadcast_data_lines.md 6.2, 06_broadcast_data_lines.md 6.7,
07_clock_and_calendar.md 7.6, 08_programme_timer.md 8.1, 09_general_lines_and_indicators.md 9.7,
10_links_requests_and_reports.md 10.7). -/
def Obligations.QueriesChangeNothing : Prop :=
  ∀ (tag b : Byte) (s : State), s.ready →
    (∀ r, s.tau.record = some r →
        exec (.tapeQuery tag []) s = .next (replied tag (.tape (tapeItemsOf s r) (seekItems s)) s)
          ∧ exec (.directoryRead tag [b]) s = .next
              (if b.toNat ≤ 15 then replied tag (.image (directoryImage s.tau b.toNat)) s
                else refusedWith tag .badParameter s))
      ∧ (s.tau.record = none →
          exec (.tapeQuery tag []) s = .next (refusedWith tag .noCassette s)
            ∧ exec (.directoryRead tag [b]) s = .next (refusedWith tag .noCassette s))
      ∧ exec (.cassetteEntryRead tag [b]) s = .next
          (if b.toNat ≤ 7 then
            replied tag
              (.cassetteEntry (s.tau.entry b.toNat) ((s.tau.entry b.toNat).map CassEntry.total)
                (decide (s.tau.record.map Cassette.cls = some (.index b.toNat)))) s
            else refusedWith tag .badParameter s)
      ∧ exec (.filterRead tag [b]) s = .next
          (if b.toNat ≤ 7 then replied tag (.filter (s.dlp.entry b.toNat)) s
            else refusedWith tag .badParameter s)
      ∧ exec (.presetRead tag [b]) s = .next
          (if 1 ≤ b.toNat ∧ b.toNat ≤ 60 then
            replied tag (.image (presetImage s.field b.toNat (s.tnu.preset b.toNat))) s
            else refusedWith tag .badParameter s)
      ∧ exec (.recordRead tag [b]) s = .next
          (if 1 ≤ b.toNat ∧ b.toNat ≤ 16 then
            replied tag (.image (recordImage s.lku.params b.toNat (s.slot b.toNat))) s
            else refusedWith tag .badParameter s)
      ∧ exec (.parameterRead tag [b]) s = .next
          (if 1 ≤ b.toNat ∧ b.toNat ≤ 36 then
            replied tag (.parameter (s.lku.params.get b.toNat)) s
            else refusedWith tag .badParameter s)
      ∧ exec (.tunerQuery tag []) s = .next (replied tag (.tuner (tunerItems s)) s)
      ∧ exec (.labelQuery tag []) s = .next (replied tag (.label (labelItems s)) s)
      ∧ exec (.clockRead tag []) s = .next (replied tag (.clock (clockItems s)) s)
      ∧ exec (.lineQuery tag []) s = .next (replied tag (.lines (linesItems s)) s)
      ∧ exec (.status tag [0]) s = .next (replied tag (.status (statusItems s)) s)

/-- A settled sensor value is taken; a cassette put in begins ACCEPTING and dew appearing while
threaded unthreads the tape (derived: 01_tape_transport.md 1.1, 01_tape_transport.md 1.7,
01_tape_transport.md 1.2, 01_tape_transport.md 1.5). -/
def Obligations.SettledSensorsAct : Prop :=
  (∀ (r : SensorReading) (s : State), s.lku.supply = .mains →
     let s1 : State := { s with pins := pinsWith s.pins r }
     (settledReading r s.tc.sensors = r → exec (.sensorSettled r) s = .next (publish s1 s1))
       ∧ (settledReading r s.tc.sensors ≠ r → followsNothing r s.tc.state →
           exec (.sensorSettled r) s
             = .next (publish s1 { s1 with tc := { s1.tc with sensors := s.tc.sensors.taking r } })))
    ∧ ((∀ s : State, s.lku.supply = .mains → s.plain → s.tc.state = .empty →
        s.tc.sensors.cam = .code .c0 → s.tc.sensors.cassette = false →
        ∃ t, exec (.sensorSettled (.cassette true)) s = .next t
          ∧ t.tc.state = .accepting ∧ t.tc.goal = some ⟨.stop, .unthreadedStop⟩
          ∧ t.tc.sensors = { s.tc.sensors with cassette := true }
          ∧ t.tc.moveTimer = some (s.now + 4000000) ∧ t.mdu.loading.staged = ⟨.moveIn, 1023⟩
          ∧ t.tau.record = some Cassette.fresh ∧ t.tau.directory = []
          ∧ onlyDeck { s with pins := { s.pins with cassette := true } } t)
       ∧ (∀ s : State, s.lku.supply = .mains → s.tc.sensors.dew = false →
          (s.plain → s.tc.state = .play → s.tc.sensors.cam = .code .c3 →
              ∃ t, exec (.sensorSettled (.dew true)) s = .next t
                ∧ t.tc.state = .disengaging ∧ t.tc.goal = some ⟨.unthread, .unthreadedStop⟩
                ∧ t.tc.sensors = { s.tc.sensors with dew := true }
                ∧ t.tc.moveTimer = some (s.now + 4000000) ∧ t.mdu.loading.staged = ⟨.moveOut, 1023⟩
                ∧ .dew ∈ t.lku.latched
                ∧ (s.tc.openRec = false → t.lku.latched = latchIn s.lku.latched .dew)
                ∧ onlyDeck { s with pins := { s.pins with dew := true } } t)
            ∧ (s.tc.state ∈ [.empty, .accepting, .ejecting, .unthreadedStop, .unthreading, .windFwd,
                  .windRev, .lockedOut] →
                let s1 : State := { s with pins := { s.pins with dew := true } }
                exec (.sensorSettled (.dew true)) s
                  = .next (publish s1 (latch .dew (noted .transport s1
                      { s1 with tc := { s1.tc with sensors := { s.tc.sensors with dew := true } } }))))))

/-- A running cam move arrives when the settled cam code equals its to-code (derived:
01_tape_transport.md 1.1, 01_tape_transport.md 1.2, 01_tape_transport.md 1.3, 01_tape_transport.md
1.8). -/
def Obligations.CamMoveArrives : Prop :=
  ∀ s : State, s.lku.supply = .mains → s.plain → s.tc.retry = .none →
    (s.tc.state = .threading → s.tc.goal.map Goal.dest = some .threadedStop →
        s.tc.sensors.cam ≠ .code .c2 →
        ∃ t, exec (.sensorSettled (.cam (.code .c2))) s = .next t
          ∧ t.tc.state = .threadedStop ∧ t.tc.goal = s.tc.goal
          ∧ t.tc.sensors = { s.tc.sensors with cam := .code .c2 } ∧ t.tc.moveTimer = none
          ∧ t.tc.idleTimer = some (s.now + 300000000) ∧ t.mdu.loading.staged = ⟨.off, 0⟩
          ∧ onlyDeck { s with pins := { s.pins with cam := .code .c2 } } t)
      ∧ (s.tc.state = .unthreading → s.tc.goal.map Goal.dest = some .unthreadedStop →
          s.tc.sensors.cam ≠ .code .c1 →
          ∃ t, exec (.sensorSettled (.cam (.code .c1))) s = .next t
            ∧ t.tc.state = .unthreadedStop ∧ t.tc.goal = s.tc.goal
            ∧ t.tc.sensors = { s.tc.sensors with cam := .code .c1 } ∧ t.tc.moveTimer = none
            ∧ t.tc.idleTimer = none ∧ t.mdu.loading.staged = ⟨.off, 0⟩
            ∧ t.svu.drumTarget = .off ∧ t.mdu.drum.staged = ⟨.off, 0⟩
            ∧ t.svu.capTarget = .off ∧ t.mdu.capstan.staged = ⟨.off, 0⟩
            ∧ onlyDeck { s with pins := { s.pins with cam := .code .c1 } } t)

/-- BOT seen in WIND_REV stops the tape and sets the position to 0, EXACT (stated: R62). -/
def Obligations.BotStopsTheWindAndFixesZero : Prop :=
  ∀ (s : State) (r : Cassette), s.lku.supply = .mains → s.plain → s.tc.state = .windRev →
    s.tc.sensors.bot = false → s.tau.record = some r →
    ∃ t, exec (.sensorSettled (.bot true)) s = .next t
      ∧ t.tc.state = .unthreadedStop ∧ t.tc.goal = some ⟨.stop, .unthreadedStop⟩
      ∧ t.tc.sensors = { s.tc.sensors with bot := true }
      ∧ t.mdu.reel.staged = ⟨.brake, 0⟩
      ∧ t.tau.record = some { r with position := some 0, quality := .exact }
      ∧ t.tau.fgStep = 0
      ∧ onlyDeck { s with pins := { s.pins with bot := true } } t

/-- A cam move that times out halts the transport for a retry, and the third fault locks it out (log
40) (derived: 01_tape_transport.md 1.1, 01_tape_transport.md 1.10). -/
def Obligations.MoveTimeoutHaltsThenLocksOut : Prop :=
  ∀ (s : State) (due : Tick), s.lku.supply = .mains → s.tc.lockWait = false →
    s.pgt.claim = none → s.tc.gate = false → s.tc.state.transient = true →
    s.tc.moveTimer = some due →
    (s.tc.retryCount ≤ 1 →
        ∃ t, exec .moveTimeout s = .next t
          ∧ t.tc.state = .halted ∧ t.tc.retryCount = s.tc.retryCount + 1
          ∧ t.tc.failedMove = some s.tc.state ∧ t.tc.retry = .pending ∧ t.tc.moveTimer = none
          ∧ t.now = max s.now due ∧ t.tc.haltedTimer = some (max s.now due + 1000000)
          ∧ t.tc.decayTimer = some (max s.now due + 60000000)
          ∧ .loadingTimeout ∈ t.lku.latched
          ∧ (s.tc.openRec = false → t.lku.latched = latchIn s.lku.latched .loadingTimeout)
          ∧ motorsRun t = false ∧ t.tc.gate = false ∧ t.tc.openRec = false ∧ onlyDeck s t)
      ∧ (s.tc.retryCount = 2 →
          ∃ t, exec .moveTimeout s = .next t
            ∧ t.tc.state = .lockedOut ∧ t.tc.retryCount = 3 ∧ t.tc.moveTimer = none
            ∧ t.tc.failedMove = some s.tc.state
            ∧ t.now = max s.now due ∧ t.tc.haltedTimer = none ∧ t.tc.decayTimer = none
            ∧ .loadingTimeout ∈ t.lku.latched ∧ .lockout ∈ t.lku.latched
            ∧ (s.tc.openRec = false →
                t.lku.latched = latchIn (latchIn s.lku.latched .loadingTimeout) .lockout)
            ∧ motorsRun t = false ∧ t.tc.gate = false ∧ t.tc.openRec = false ∧ onlyDeck s t)

/-- When the HALTED timer runs out the transport recovers toward UNTHREADED_STOP, or EJECT, from the
cam position (derived: 01_tape_transport.md 1.10). -/
def Obligations.HaltedTimerRecovers : Prop :=
  ∀ (s : State) (due : Tick), s.lku.supply = .mains → s.pgt.claim = none →
    s.tc.state = .halted → s.tc.retry = .none → s.tc.haltedTimer = some due →
    let eject := s.tc.goal.map Goal.target = some .eject
    let goal : Goal := if eject then ⟨.eject, .empty⟩ else ⟨.unthread, .unthreadedStop⟩
    let begins (mv : TState) : Prop :=
      ∃ t, exec .haltedTimeout s = .next t ∧ t.tc.state = mv ∧ t.tc.goal = some goal
        ∧ t.mdu.loading.staged = loadingDemand mv
        ∧ t.tc.moveTimer = some (max s.now due + 4000000) ∧ t.tc.haltedTimer = none
        ∧ t.now = max s.now due ∧ onlyDeck s t
    (s.tc.sensors.cam = .code .c3 → begins .disengaging)
      ∧ (s.tc.sensors.cam = .code .c2 → begins .unthreading)
      ∧ (s.tc.sensors.cam = .code .c1 →
        (eject → begins .ejecting)
          ∧ (¬eject → ∃ t, exec .haltedTimeout s = .next t ∧ t.tc.state = .unthreadedStop
              ∧ t.tc.goal = some goal ∧ t.tc.haltedTimer = none ∧ onlyDeck s t))
      ∧ (s.tc.sensors.cam = .code .c0 →
        ∃ t, exec .haltedTimeout s = .next t ∧ t.tc.state = .empty ∧ t.tc.goal = some goal
          ∧ t.tau.record = none ∧ t.tau.directory = [] ∧ t.tc.haltedTimer = none ∧ onlyDeck s t)
      ∧ (s.tc.sensors.cam = .transit →
        begins (match s.tc.interrupted with
          | some .engaging | some .disengaging => .disengaging
          | some .accepting | some .ejecting => if eject then .ejecting else .accepting
          | _ => .unthreading))
      ∧ loadingDemand .disengaging = ⟨.moveOut, 1023⟩ ∧ loadingDemand .unthreading = ⟨.moveOut, 1023⟩
      ∧ loadingDemand .ejecting = ⟨.moveOut, 1023⟩ ∧ loadingDemand .accepting = ⟨.moveIn, 1023⟩

/-- The loading retry returns the cam to the last good code and repeats the failed move (derived:
01_tape_transport.md 1.10). -/
def Obligations.LoadingRetryRepeatsTheMove : Prop :=
  ∀ (s : State) (due : Tick), s.lku.supply = .mains →
    (s.pgt.claim = none → s.tc.startUp = false → s.tc.state = .halted → s.tc.retry = .pending →
      s.tc.haltedTimer = some due → s.mdu.loading.state ≠ .latchedOff →
        ∀ (failed : TState) (a b : Level), s.tc.failedMove = some failed →
          moveOf failed = some (a, b) →
          (s.tc.sensors.cam = .code a →
              ∃ t, exec .haltedTimeout s = .next t ∧ t.tc.state = failed
                ∧ t.tc.retry = .repeating ∧ t.tc.retryCount = s.tc.retryCount
                ∧ t.tc.moveTimer = some (max s.now due + 4000000) ∧ onlyDeck s t)
            ∧ (s.tc.sensors.cam ≠ .code a →
              ∃ t, exec .haltedTimeout s = .next t ∧ moveOf t.tc.state = some (b, a)
                ∧ t.tc.retry = .returning ∧ t.tc.retryCount = s.tc.retryCount
                ∧ t.tc.moveTimer = some (max s.now due + 4000000) ∧ onlyDeck s t))
      ∧ (s.tc.state = .halted → s.tc.retry = .pending → s.tc.haltedTimer = some due →
          s.mdu.loading.state = .latchedOff →
          exec .haltedTimeout s = .next (publish s
            { s with now := max s.now due, tc := { s.tc with haltedTimer := none } }))
      ∧ (s.tc.state ≠ .lockedOut → s.tc.decayTimer = some due →
          exec .retryDecayExpiry s = .next (publish s
            { s with now := max s.now due
                     tc := { s.tc with decayTimer := none, retryCount := 0 } }))

/-- A reel stall raises REEL_STALL and halts a running transport (derived: 01_tape_transport.md 1.7,
01_tape_transport.md 1.10). -/
def Obligations.ReelStallHalts : Prop :=
  ∀ (s : State) (due : Tick), s.lku.supply = .mains → s.pgt.claim = none →
    s.tc.state ∉ [.halted, .lockedOut, .powerDown] → motorsRun s = true →
    (s.tc.gate = true → s.tc.state = .record) → s.tc.stallTimer = some due →
    ∃ t, exec .reelStall s = .next t
      ∧ t.tc.state = .halted ∧ t.now = max s.now due ∧ t.tc.stallTimer = none
      ∧ t.tc.haltedTimer = some (max s.now due + 1000000)
      ∧ motorsRun t = false ∧ t.mdu.reel.applied = ⟨.brake, 0⟩ ∧ t.mdu.reel.staged = ⟨.brake, 0⟩
      ∧ t.tc.gate = false ∧ t.tc.openRec = false
      ∧ .reelStall ∈ t.lku.latched
      ∧ (s.tc.openRec = false → t.lku.latched = latchIn s.lku.latched .reelStall) ∧ onlyDeck s t

/-- The idle and pause limits and the lock timers of recording set their targets when they run out
(derived: 01_tape_transport.md 1.8, 01_tape_transport.md 1.6). -/
def Obligations.TransportLimitsAct : Prop :=
  (∀ (s : State) (due : Tick), s.lku.supply = .mains → s.plain →
     (s.tc.state = .threadedStop → s.tc.sensors.cam = .code .c2 → s.tc.idleTimer = some due →
         ∃ t, exec .idleTimeout s = .next t
           ∧ t.tc.state = .unthreading ∧ t.tc.goal = some ⟨.unthread, .unthreadedStop⟩
           ∧ t.tc.idleTimer = none ∧ t.tc.moveTimer = some (max s.now due + 4000000)
           ∧ t.mdu.loading.staged = ⟨.moveOut, 1023⟩ ∧ onlyDeck s t)
       ∧ (s.tc.state = .still → s.tc.sensors.cam = .code .c3 → s.tc.pauseTimer = some due →
         ∃ t, exec .pauseTimeout s = .next t
           ∧ t.tc.state = .disengaging ∧ t.tc.goal = some ⟨.stop, .threadedStop⟩
           ∧ t.tc.pauseTimer = none ∧ t.tc.moveTimer = some (max s.now due + 4000000)
           ∧ onlyDeck s t)
       ∧ (s.tc.state = .recordPause → s.tc.pauseTimer = some due →
         ∃ t, exec .pauseTimeout s = .next t
           ∧ t.tc.state = .threadedStop ∧ t.tc.goal = some ⟨.stop, .threadedStop⟩
           ∧ t.tc.pauseTimer = none ∧ t.tc.openRec = false
           ∧ t.tc.idleTimer = some (max s.now due + 300000000) ∧ onlyDeck s t))
    ∧ (∀ (s : State) (due : Tick), s.lku.supply = .mains → s.tc.startUp = false →
       s.pgt.claim = none → s.lku.params.classServoUnlock = .warning → s.tc.sensors.cam = .code .c3 →
       (s.tc.state = .engaging → s.tc.lockWait = true → s.tc.lockTimer = some due →
           ∃ t, exec .lockWaitTimeout s = .next t
             ∧ t.tc.state = .disengaging ∧ t.tc.goal = some ⟨.recordPause, .recordPause⟩
             ∧ t.tc.lockWait = false ∧ t.tc.lockTimer = none ∧ t.tc.openRec = s.tc.openRec
             ∧ t.lku.latched = latchIn s.lku.latched .servoUnlock ∧ t.now = max s.now due
             ∧ onlyDeck s t)
         ∧ (s.tc.state = .record → s.tc.lockWait = false → s.tc.recordLockTimer = some due →
           ∃ t, exec .recordLockTimeout s = .next t
             ∧ t.tc.state = .disengaging ∧ t.tc.goal = some ⟨.recordPause, .recordPause⟩
             ∧ t.tc.gate = false ∧ t.tc.recordLockTimer = none ∧ t.tc.openRec = s.tc.openRec
             ∧ t.lku.latched = latchIn s.lku.latched .servoUnlock ∧ t.now = max s.now due
             ∧ onlyDeck s t))

/-- DECK_REQUEST meets the nine tests in their order, and is taken when it passes them all (derived:
01_tape_transport.md 1.4, 01_tape_transport.md 1.3, 10_links_requests_and_reports.md 10.8). -/
def Obligations.DeckRequestTestsInOrder : Prop :=
  ∀ (tag : Byte) (p : List Byte) (s : State), s.ready → p.length = 2 →
    let q := targetOf (byteAt p 0)
    let st := s.tc.state
    let dest := q.map (fun t => destOf t st)
    let threads := dest.bind TState.level? = some .c2 ∨ dest.bind TState.level? = some .c3
    let speedMatters := q = some .record ∨ q = some .recordPause
    let badSpeed := speedCode (byteAt p 1) = none
      ∨ (speedCode (byteAt p 1) = some .ep ∧ s.lku.params.fieldSystem = .f50)
    let here : Option Level := if s.tc.lockWait then some .c3 else st.level?
    let moves := here = none ∨ dest.bind TState.level? ≠ here
      ∨ (s.tc.lockWait = false ∧ dest = some .record ∧ st ≠ .record)
    let latched :=
      (s.mdu.loading.state = .latchedOff ∧ moves) ∨ (s.mdu.drum.state = .latchedOff ∧ threads)
        ∨ (s.mdu.capstan.state = .latchedOff ∧ dest.bind TState.level? = some .c3)
        ∨ (s.mdu.reel.state = .latchedOff
            ∧ dest ∈ [some .windFwd, some .windRev, some .play, some .record, some .searchFwd,
                some .searchRev])
    let result := exec (.deckRequest tag p) s
    if st = .halted ∨ st = .powerDown then result = .next (refusedWith tag .notAllowed s)
    else if st = .lockedOut ∧ (q ≠ some .eject ∨ s.tc.eject ≠ .notMade) then
      result = .next (refusedWith tag .lockedOut s)
    else if s.pgt.engaged = true then result = .next (refusedWith tag .timerEngaged s)
    else if q = none ∨ (speedMatters ∧ badSpeed) then
      result = .next (refusedWith tag .badParameter s)
    else if st = .empty ∧ s.tc.sensors.cassette = false then
      result = .next (refusedWith tag .noCassette s)
    else if q = some .record ∧ s.tau.record.map Cassette.tab = some .no then
      result = .next (refusedWith tag .isProtected s)
    else if threads ∧ s.tc.sensors.dew = true then result = .next (refusedWith tag .dew s)
    else if q ∈ [some .play, some .record, some .searchFwd, some .windFwd]
        ∧ s.tc.sensors.eot = true then
      result = .next (refusedWith tag .atTapeEnd s)
    else if latched then result = .next (refusedWith tag .motorLatched s)
    else
      result = answerRequest tag
          ⟨s, [.tcTake ⟨q, speedCode (byteAt p 1), .deck⟩], false,
            fun t => .deck t.tc.state (t.tc.goal.map Goal.dest), fun t => (t, [])⟩ s
        ∧ (∀ t, result = .next t → ∃ r, t.holdsReply ⟨tag, none, false, r⟩)
        ∧ (st.transient = true → s.tc.lockWait = false →
          ∃ t, result = .next t ∧ t.tc.state = st
            ∧ t.tc.goal = q.map (fun g => ⟨g, destOf g st⟩)
            ∧ t.holdsReply ⟨tag, none, false, .deck st dest⟩ ∧ onlyDeck s t)

/-- A taken DECK_REQUEST or CUE_SEEK begins its path; CUE_MARK and COUNTER_ZERO act on the mark and
the counter (derived: 01_tape_transport.md 1.4, 04_cue_marks_and_the_cassette_directory.md 4.3,
04_cue_marks_and_the_cassette_directory.md 4.1, 03_tape_accounting.md 3.7). -/
def Obligations.DeckAndTapeRequestsAct : Prop :=
  (∀ (tag n : Byte) (s : State), s.ready → s.plain → s.pgt.engaged = false →
     s.tc.sensors.dew = false → s.tc.sensors.eot = false →
     (∀ c, (s.mdu.motor c).state ≠ .latchedOff) →
     (s.tc.state = .unthreadedStop → s.tc.sensors.cam = .code .c1 →
         ∃ t, exec (.deckRequest tag [6, 0]) s = .next t
           ∧ t.tc.state = .threading ∧ t.tc.goal = some ⟨.play, .play⟩
           ∧ t.tc.moveTimer = some (s.now + 4000000) ∧ t.mdu.loading.staged = ⟨.moveIn, 1023⟩
           ∧ t.holdsReply ⟨tag, none, false, .deck .threading (some .play)⟩ ∧ onlyDeck s t)
       ∧ (s.tc.state = .threadedStop →
         ∃ t, exec (.deckRequest tag [4, 0]) s = .next t
           ∧ t.tc.state = .threadedStop ∧ t.tc.goal = some ⟨.stop, .threadedStop⟩
           ∧ t.tc.idleTimer = some (s.now + 300000000)
           ∧ t.holdsReply ⟨tag, none, false, .deck .threadedStop (some .threadedStop)⟩
           ∧ onlyDeck s t)
       ∧ (s.tc.state = .threadedStop → s.tc.sensors.cam = .code .c2 → 1 ≤ n.toNat → n.toNat ≤ 20 →
         ∃ t, exec (.cueSeek tag [0, n]) s = .next t
           ∧ t.tc.state = .engaging ∧ t.tc.goal = some ⟨.searchFwd, .searchFwd⟩
           ∧ t.tau.seek = ⟨.seeking, false, n.toNat, 0, 0, false, none⟩
           ∧ t.holdsReply ⟨tag, none, false, .none⟩ ∧ onlyDeck s t)
       ∧ (∀ d : Byte, 2 ≤ d.toNat ∨ n.toNat = 0 ∨ 20 < n.toNat →
           exec (.cueSeek tag [d, n]) s = .next (refusedWith tag .badParameter s)))
    ∧ (∀ (tag : Byte) (s : State), s.ready →
       exec (.cueMark tag []) s = .next
           (if s.tc.state = .record then
             answered tag false .none s
               { s with tau := { s.tau with
                   markCount := if s.tau.markCount = 0 then 48 else s.tau.markCount } }
             else refusedWith tag .notAllowed s)
         ∧ exec (.counterZero tag []) s = .next
           (match s.tau.record with
             | some r =>
                 answered tag false .none s
                   { s with tau := { s.tau with
                       record := some { r with counter := 0, counterValid := true } } }
             | none => refusedWith tag .noCassette s))

/-- CASSETTE_ENTRY_WRITE checks its entry, replaces it whole and acts on the cassette record (derived:
03_tape_accounting.md 3.2, 03_tape_accounting.md 3.3). -/
def Obligations.CassetteEntryWriteWritesTheTable : Prop :=
  ∀ (tag : Byte) (p : List Byte) (s : State), s.ready → p.length = 19 → s.tau.table.length = 8 →
    let i := byteAt p 0
    let result := exec (.cassetteEntryWrite tag p) s
    let stored (e : Option CassEntry) : State :=
      { s with tau := { s.tau with table := s.tau.table.set i e } }
    let given : Option (Option CassEntry) :=
      if 7 < i ∨ 1 < byteAt p 1 then none
      else if byteAt p 1 = 0 then some none
      else
        match entryOperand p with
        | none => none
        | some e => if e.kNom ≤ 2 * e.hub ^ 2 ∨ e.total < 1 then none else some (some e)
    (given = none → result = .next (refusedWith tag .badParameter s))
      ∧ ∀ e, given = some e →
        let total := e.map CassEntry.total
        ((∀ r, s.tau.record = some r → r.cls ≠ .index i ∧ r.cls ≠ .unclassified) →
            result = .next (answered tag false (.cassetteWritten total false) s (stored e)))
          ∧ ∀ r, s.tau.record = some r → s.pgt.claim = none →
            (r.cls = .index i →
              ∃ t, result = .next t
                ∧ t.tau.record = some { r with
                    cls := .unknown, k := none, samples := []
                    position := if r.quality = .estimated then none else r.position
                    quality := if r.quality = .estimated then .none else r.quality }
                ∧ t.tau.outliers = 0 ∧ t.holdsReply ⟨tag, none, false, .cassetteWritten total true⟩
                ∧ onlyDeck (stored e) t)
              ∧ ∀ k, r.cls = .unclassified → r.k = some k →
                (chooseEntry s.field k (stored e).tau.table = none →
                  ∃ t, result = .next t ∧ t.tau.record = some r
                    ∧ t.holdsReply ⟨tag, none, false, .cassetteWritten total false⟩
                    ∧ onlyDeck (stored e) t)
                  ∧ ∀ j x, chooseEntry s.field k (stored e).tau.table = some j →
                    (stored e).tau.entry j = some x →
                    ∃ t, result = .next t
                      ∧ t.tau.record = some { r with
                          cls := .index j, samples := []
                          position := r.position.map (fun q => min q x.total) }
                      ∧ t.tau.outliers = 0
                      ∧ t.holdsReply ⟨tag, none, false, .cassetteWritten total false⟩
                      ∧ onlyDeck (stored e) t

/-- PRESET_WRITE is refused in the order of its checks, replaces the entry, and acts on a tuned
preset's tuning (derived: 05_tuner_and_presets.md 5.2, 05_tuner_and_presets.md 5.3,
10_links_requests_and_reports.md 10.8). -/
def Obligations.PresetWriteWritesTheTable : Prop :=
  ∀ (tag : Byte) (p : List Byte) (s : State), s.ready → p.length = 18 →
    let n := byteAt p 0
    let result := exec (.presetWrite tag p) s
    let stored (e : Option Preset) : State :=
      { s with tnu := { s.tnu with presets := s.tnu.presets.set (n - 1) e } }
    let refusal : Option Reason :=
      if n < 1 ∨ 60 < n then some .badParameter
      else if s.tnu.owner = .timer ∧ s.tnu.source = .preset n then some .owned
      else if s.tnu.state = .installing then some .notAllowed
      else none
    (∀ why, byteAt p 1 = 0 → refusal = some why → result = .next (refusedWith tag why s))
      ∧ (byteAt p 1 = 0 → refusal = none →
        (s.tnu.source ≠ .preset n → result = .next (answered tag false .none s (stored none)))
          ∧ (s.tnu.source = .preset n → s.pgt.claim = none →
            ∃ t, result = .next t ∧ t.tnu.source = .direct ∧ t.tnu.state = s.tnu.state
              ∧ t.tnu.base = s.tnu.base ∧ t.tnu.fine = s.tnu.fine ∧ t.tnu.band = s.tnu.band
              ∧ t.tnu.afc = 0 ∧ t.tnu.settleTimer = s.tnu.settleTimer
              ∧ t.dlp.tracker = s.dlp.tracker ∧ t.holdsReply ⟨tag, none, false, .none⟩
              ∧ onlyTuning (stored none) t))
      ∧ (2 ≤ byteAt p 1 → result = .next (refusedWith tag .badParameter s))
      ∧ ∀ x, byteAt p 1 = 1 → presetOperand p = some x →
          let new := x.over (s.tnu.preset n)
          let clamped := decide (x.fine < -16 ∨ 15 < x.fine)
          let inRange : Prop := dividerOf s.field 45250 ≤ x.n ∧ x.n ≤ dividerOf s.field 863250
          (∀ why, refusal = some why → result = .next (refusedWith tag why s))
            ∧ (refusal = none → ¬inRange → result = .next (refusedWith tag .badParameter s))
            ∧ (refusal = none → inRange → s.tnu.source ≠ .preset n →
                result = .next (answered tag clamped .none s (stored (some new))))
            ∧ ∀ old, refusal = none → inRange → s.tnu.source = .preset n → s.pgt.claim = none →
                s.tnu.preset n = some old →
                (new.n ≠ old.n → ∃ t, result = .next t
                    ∧ settlesOn (.preset n) new.n new.fine (stored (some new)) t
                    ∧ t.holdsReply ⟨tag, none, clamped, .none⟩)
                  ∧ (new.n = old.n → new.fine ≠ old.fine → ∃ t, result = .next t
                    ∧ t.tnu.state = .settling ∧ t.tnu.fine = new.fine ∧ t.tnu.afc = 0
                    ∧ t.tnu.source = .preset n ∧ t.tnu.base = s.tnu.base
                    ∧ t.tnu.settleTimer = some (s.now + 80000)
                    ∧ t.holdsReply ⟨tag, none, clamped, .none⟩ ∧ onlyTuning (stored (some new)) t)
                  ∧ (new.n = old.n → new.fine = old.fine → ∃ t, result = .next t
                    ∧ t.tnu.state = s.tnu.state ∧ t.tnu.source = .preset n
                    ∧ t.tnu.base = s.tnu.base ∧ t.tnu.fine = s.tnu.fine
                    ∧ t.tnu.afc = (if old.afc = true ∧ new.afc = false then 0 else s.tnu.afc)
                    ∧ t.holdsReply ⟨tag, none, clamped, .none⟩
                    ∧ onlyTuning (stored (some new)) t)

/-- Each user tuning request is refused by the first of its tests that fails (derived:
05_tuner_and_presets.md 5.4). -/
def Obligations.TuningRequestsTestedInOrder : Prop :=
  ∀ (tag b : Byte) (p : List Byte) (s : State), s.ready →
    (s.pgt.engaged = true →
        exec (.search tag [b]) s = .next (refusedWith tag .timerEngaged s)
          ∧ exec (.install tag [b]) s = .next (refusedWith tag .timerEngaged s))
      ∧ (s.tnu.owner = .timer →
          (s.pgt.engaged = false →
              exec (.search tag [b]) s = .next (refusedWith tag .owned s)
                ∧ exec (.install tag [b]) s = .next (refusedWith tag .owned s))
            ∧ exec (.tunePreset tag [b]) s = .next (refusedWith tag .owned s)
            ∧ exec (.tuneStep tag [b]) s = .next (refusedWith tag .owned s)
            ∧ exec (.fineTune tag [b]) s = .next (refusedWith tag .owned s)
            ∧ (p.length = 4 →
                exec (.tuneFrequency tag p) s = .next (refusedWith tag .owned s)))
      ∧ (s.tnu.owner = .user →
          (b.toNat = 0 ∨ 60 < b.toNat →
              exec (.tunePreset tag [b]) s = .next (refusedWith tag .badParameter s)
                ∧ (s.pgt.engaged = false →
                  exec (.install tag [b]) s = .next (refusedWith tag .badParameter s)))
            ∧ (2 ≤ b.toNat →
                exec (.tuneStep tag [b]) s = .next (refusedWith tag .badParameter s)
                  ∧ (s.pgt.engaged = false →
                    exec (.search tag [b]) s = .next (refusedWith tag .badParameter s)))
            ∧ (p.length = 4 → numberAt p 0 4 < 45250 ∨ 863250 < numberAt p 0 4 →
                exec (.tuneFrequency tag p) s = .next (refusedWith tag .badParameter s))
            ∧ (1 ≤ b.toNat → b.toNat ≤ 60 → s.tnu.preset b.toNat = none →
                exec (.tunePreset tag [b]) s = .next (refusedWith tag .notAllowed s))
            ∧ (b.toNat ≤ 1 →
                (∀ n, 1 ≤ n → n ≤ 60 → (s.tnu.preset n).map Preset.skip ≠ some false) →
                exec (.tuneStep tag [b]) s = .next (refusedWith tag .notAllowed s))
            ∧ (s.tnu.state ≠ .settling → s.tnu.state ≠ .tuned →
                exec (.fineTune tag [b]) s = .next (refusedWith tag .notAllowed s)))

/-- TUNE_PRESET, TUNE_STEP and TUNE_FREQUENCY enter SETTLING on their source; FINE_TUNE sets the
offset and settles again (derived: 05_tuner_and_presets.md 5.1, 05_tuner_and_presets.md 5.2,
05_tuner_and_presets.md 5.4, 06_broadcast_data_lines.md 6.3, 06_broadcast_data_lines.md 6.4). -/
def Obligations.TuneRequestsSettle : Prop :=
  (∀ (tag b : Byte) (s : State), s.ready → s.pgt.claim = none → s.tnu.owner = .user →
     (∀ x, 1 ≤ b.toNat → b.toNat ≤ 60 → s.tnu.preset b.toNat = some x →
         s.tnu.state ≠ .searching → s.tnu.state ≠ .installing →
         (s.tnu.isOn b.toNat = false →
           ∃ t, exec (.tunePreset tag [b]) s = .next t
             ∧ settlesOn (.preset b.toNat) x.n x.fine s t ∧ t.tnu.lastTuned = some b.toNat
             ∧ t.holdsReply ⟨tag, none, false, .tuning (.preset b.toNat) (some x.n)
                 (some (frequencyOf s.field x.n)) (some (s.tnu.limits.bandFor x.n))⟩)
           ∧ (s.tnu.isOn b.toNat = true →
             exec (.tunePreset tag [b]) s = .next (answered tag false (tuningResults s) s s)))
       ∧ (∀ n x, b.toNat ≤ 1 → s.tnu.stepTarget (decide (b.toNat = 0)) = some n →
           s.tnu.preset n = some x → s.tnu.isOn n = false →
           ∃ t, exec (.tuneStep tag [b]) s = .next t
             ∧ settlesOn (.preset n) x.n x.fine s t ∧ t.tnu.lastTuned = some n)
       ∧ ∀ p : List Byte, p.length = 4 → 45250 ≤ numberAt p 0 4 → numberAt p 0 4 ≤ 863250 →
           let n := dividerOf s.field (numberAt p 0 4)
           let inBand := (s.tnu.limits.bandOf n).isSome
           let d : Nat := if inBand then n else (s.tnu.limits.nearest n).1
           ∃ t, exec (.tuneFrequency tag p) s = .next t ∧ settlesOn .direct d 0 s t
             ∧ t.tnu.lastTuned = s.tnu.lastTuned
             ∧ t.holdsReply ⟨tag, none, !inBand, .tuning .direct (some d)
                 (some (frequencyOf s.field d)) (some (s.tnu.limits.bandFor d))⟩)
    ∧ (∀ (tag b : Byte) (s : State), s.ready → s.tnu.owner = .user →
       s.tnu.state = .settling ∨ s.tnu.state = .tuned →
       let v : Int := clampInt (-16) 15 b.toInt
       let presets := match s.tnu.source with
         | .preset n =>
             s.tnu.presets.set (n - 1) ((s.tnu.preset n).map (fun x => { x with fine := v }))
         | _ => s.tnu.presets
       ∃ t, exec (.fineTune tag [b]) s = .next t
         ∧ t.tnu.state = .settling ∧ t.tnu.fine = v ∧ t.tnu.afc = 0 ∧ t.tnu.base = s.tnu.base
         ∧ t.tnu.source = s.tnu.source ∧ t.tnu.settleTimer = some (s.now + 80000)
         ∧ t.dlp.learnCode = none ∧ t.dlp.learnCount = 0
         ∧ (∃ r, t.holdsReply ⟨tag, none, decide (b.toInt < -16 ∨ 15 < b.toInt), r⟩)
         ∧ onlyTuning { s with tnu := { s.tnu with presets := presets } } t)

/-- SEARCH and INSTALL taken in IDLE begin their scans at the end of the table they start from
(derived: 05_tuner_and_presets.md 5.6, 05_tuner_and_presets.md 5.7). -/
def Obligations.SearchAndInstallBegin : Prop :=
  ∀ (tag b : Byte) (s : State), s.ready → s.pgt.claim = none → s.pgt.engaged = false →
    s.tnu.owner = .user → s.tnu.state = .idle → s.tnu.base = none →
    (b.toNat ≤ 1 →
        let up : Bool := decide (b.toNat = 0)
        let first : Int := if up then s.tnu.limits.low.lo else s.tnu.limits.uhf.hi
        ∃ t, exec (.search tag [b]) s = .next t
          ∧ t.tnu.state = .searching ∧ t.tnu.source = .scan ∧ t.tnu.base = some first
          ∧ t.tnu.band = some (s.tnu.limits.bandFor first)
          ∧ t.tnu.searchResult = .running ∧ t.tnu.searchUp = up ∧ t.tnu.foundDivider = none
          ∧ t.tnu.held = .idle
          ∧ t.tnu.scan = ⟨up, first, false, .settling, 0, 0⟩
          ∧ t.tnu.scanTimer = some (s.now + 80000) ∧ onlyTuning s t)
      ∧ (1 ≤ b.toNat → b.toNat ≤ 60 →
        let first : Int := s.tnu.limits.low.lo
        ∃ t, exec (.install tag [b]) s = .next t
          ∧ t.tnu.state = .installing ∧ t.tnu.source = .scan ∧ t.tnu.base = some first
          ∧ t.tnu.band = some (s.tnu.limits.bandFor first)
          ∧ t.tnu.installResult = .running ∧ t.tnu.installFirst = b.toNat
          ∧ t.tnu.installNext = b.toNat ∧ t.tnu.installStored = 0 ∧ t.tnu.installCodes = []
          ∧ t.tnu.held = .idle ∧ t.tnu.scan = ⟨true, first, false, .settling, 0, 0⟩
          ∧ t.tnu.scanTimer = some (s.now + 80000) ∧ onlyTuning s t)

/-- BAND_LIMITS_WRITE, SOURCE_SELECT and FILTER_WRITE check and replace what they name (derived:
05_tuner_and_presets.md 5.1, 05_tuner_and_presets.md 5.8, 06_broadcast_data_lines.md 6.2). -/
def Obligations.TunerAndFilterTablesWritten : Prop :=
  ∀ (tag b : Byte) (p : List Byte) (s : State), s.ready →
    (p.length = 12 →
        let l := limitsOperand p
        let fits (x : BandLimit) : Prop := 256 ≤ x.lo ∧ x.lo ≤ x.hi ∧ x.hi ≤ 32767
        (s.tnu.state = .searching ∨ s.tnu.state = .installing →
            exec (.bandLimitsWrite tag p) s = .next (refusedWith tag .notAllowed s))
          ∧ (s.tnu.state ≠ .searching → s.tnu.state ≠ .installing →
            (¬(fits l.low ∧ fits l.high ∧ fits l.uhf ∧ l.low.hi < l.high.lo ∧ l.high.hi < l.uhf.lo) →
                exec (.bandLimitsWrite tag p) s = .next (refusedWith tag .badParameter s))
              ∧ (fits l.low ∧ fits l.high ∧ fits l.uhf ∧ l.low.hi < l.high.lo ∧ l.high.hi < l.uhf.lo →
                ∃ t, exec (.bandLimitsWrite tag p) s = .next t ∧ t.tnu.limits = l
                  ∧ t.tnu.base = s.tnu.base ∧ t.tnu.state = s.tnu.state
                  ∧ (∀ d, s.tnu.base = some d → t.tnu.band = some (l.bandFor d))
                  ∧ t.holdsReply ⟨tag, none, false, .none⟩
                  ∧ onlyTuning { s with tnu := { s.tnu with limits := l } } t)))
      ∧ exec (.sourceSelect tag [b]) s = .next
          (if 2 ≤ b.toNat then refusedWith tag .badParameter s
            else if s.pgt.claim.isSome = true then refusedWith tag .owned s
            else answered tag false .none s
              { s with tnu := { s.tnu with external := decide (b.toNat = 1) } })
      ∧ (p.length = 7 →
          let stored (e : Option FilterEntry) : State :=
            { s with dlp := { s.dlp with filter := s.dlp.filter.set (byteAt p 0) e } }
          exec (.filterWrite tag p) s = .next
            (if 7 < byteAt p 0 ∨ 1 < byteAt p 1 then refusedWith tag .badParameter s
              else if byteAt p 1 = 0 then answered tag false .none s (stored none)
              else
                match filterOperand p with
                | none => refusedWith tag .badParameter s
                | some e => answered tag false .none s (stored (some e))))

/-- CLOCK_SET sets the date and time, the state and the prescaler, and hands PGT the jump (derived:
07_clock_and_calendar.md 7.3, 07_clock_and_calendar.md 7.5, 08_programme_timer.md 8.8). -/
def Obligations.ClockSetSetsTheClock : Prop :=
  ∀ (tag : Byte) (p : List Byte) (s : State), s.ready → p.length = 6 →
    let new : DateTime :=
      ⟨byteAt p 0, byteAt p 1, 2000 + byteAt p 2, byteAt p 3, byteAt p 4, byteAt p 5⟩
    let result := exec (.clockSet tag p) s
    let reached (moment : Int) : Prop := moment ≤ (new.seconds : Int)
    let cku : Cku := { s.cku with
      now := new, prescaler := 0, state := .set
      lastJump := if new = s.cku.now then s.cku.lastJump else some ⟨.user, s.cku.now, new⟩ }
    (new.valid = false → result = .next (refusedWith tag .badParameter s))
      ∧ (new.valid = true → s.timerQuiet →
        ∃ t, result = .next t
          ∧ t.holdsReply ⟨tag, none, false, .clockSet new new.weekday⟩
          ∧ sameButQueue t { s with cku := cku, dlp := { s.dlp with candidate := none } })
      ∧ ∀ n, new.valid = true → new ≠ s.cku.now → n ∈ slots → s.pgt.records.length = 16 →
          (s.slot n).repeats = .once →
          (∀ j ∈ slots, j ≠ n → (s.slot j).state ≠ .armed ∧ (s.slot j).state ≠ .deferred) →
          let r := s.slot n
          let late : Prop := reached (r.deadline s.lku.params)
          let becomes (x : RecState) (res : Option ResultCode) : Prop :=
            ∃ t, result = .next t ∧ (t.slot n).state = x ∧ (t.slot n).lastResult = res
              ∧ t.pgt.claim = none ∧ t.cku = cku ∧ t.dlp.candidate = none ∧ t.tc = s.tc
              ∧ t.tnu = { s.tnu with owner := if s.pgt.claim = none then s.tnu.owner else .user }
              ∧ (∀ j ∈ slots, j ≠ n → t.slot j = s.slot j)
          (s.pgt.claim = none →
            (r.state = .armed → reached (r.trigger s.lku.params) →
                (s.pgt.engaged = false → becomes .ended (some .missedNotEngaged))
                  ∧ (s.pgt.engaged = true → late → becomes .ended (some .missedClock)))
              ∧ (r.state = .armed → ¬reached (r.trigger s.lku.params) → becomes .armed r.lastResult)
              ∧ (r.state = .deferred → late → becomes .ended (some .missedClock))
              ∧ (r.state = .deferred → ¬late → ¬reached r.deferredTrigger →
                becomes .armed r.lastResult))
            ∧ (s.pgt.claim = some n → r.state = .watching →
                reached (r.waitDeadline s.lku.params) → becomes .ended (some .missedClock))
            ∧ (s.pgt.claim = some n → s.pgt.engaged = true → r.state = .starting →
                r.phase = .clock → r.startCount.isSome = true → r.recalled = false →
                r.chosen = some .sp → ¬reached r.start → s.tc.state = .recordPause →
                s.tc.lockWait = false → s.tc.sensors.dew = false → s.mdu.drum.state ≠ .latchedOff →
                ∃ t, result = .next t ∧ t.slot n = { r with recalled := true }
                  ∧ t.pgt.claim = some n ∧ t.tc.state = .recordPause
                  ∧ t.tc.goal = some ⟨.recordPause, .recordPause⟩ ∧ t.cku = cku
                  ∧ t.tnu = s.tnu)

/-- RECORD_WRITE and RECORD_CLEAR replace a slot that is not active, and no other (derived:
08_programme_timer.md 8.1, 10_links_requests_and_reports.md 10.8). -/
def Obligations.RecordWriteAndClearWriteTheSlot : Prop :=
  ∀ (tag b : Byte) (p : List Byte) (s : State), s.ready → s.pgt.records.length = 16 →
    let stored (n : Nat) (r : TimerRecord) : State :=
      { s with pgt := { s.pgt with
          records := s.pgt.records.set (n - 1) r, lastChanged := some n } }
    (p.length = 15 →
        let n := byteAt p 0
        let result := exec (.recordWrite tag p) s
        (n < 1 ∨ 16 < n → result = .next (refusedWith tag .badParameter s))
          ∧ (1 ≤ n → n ≤ 16 → (s.slot n).state.active = true →
              result = .next (refusedWith tag .notAllowed s))
          ∧ (1 ≤ n → n ≤ 16 → (s.slot n).state.active = false →
            (recordOperand p = none → result = .next (refusedWith tag .badParameter s))
              ∧ ∀ r, recordOperand p = some r →
                  (r.unfit s.field = true → result = .next (refusedWith tag .badParameter s))
                    ∧ (r.unfit s.field = false → r.repeats = .once →
                        let x := r.withLabel
                        if x.deadline s.lku.params ≤ s.clock ∨ calendarMax < x.stopMoment then
                          result = .next (refusedWith tag .badParameter s)
                        else
                          ∃ t, result = .next t ∧ sameButQueue t (stored n x)
                            ∧ t.holdsReply ⟨tag, none, false, .recordWritten x.start
                                (x.trigger s.lku.params) (x.deadline s.lku.params)⟩)
                    ∧ (r.unfit s.field = false → r.repeats ≠ .once →
                        let found := nextServing s.lku.params s.clock 0 r.withLabel
                        (found = none → result = .next (refusedWith tag .badParameter s))
                          ∧ ∀ j, found = some j →
                            let x := r.withLabel.shift j
                            r.withLabel.fits j = true ∧ (s.clock : Int) < x.trigger s.lku.params
                              ∧ x.stopMoment ≤ calendarMax
                              ∧ ∃ t, result = .next t ∧ sameButQueue t (stored n x)
                                ∧ t.holdsReply ⟨tag, none, false, .recordWritten x.start
                                    (x.trigger s.lku.params) (x.deadline s.lku.params)⟩)))
      ∧ (b.toNat = 0 ∨ 16 < b.toNat →
          exec (.recordClear tag [b]) s = .next (refusedWith tag .badParameter s))
      ∧ (1 ≤ b.toNat → b.toNat ≤ 16 →
          ((s.slot b.toNat).state.active = true →
              exec (.recordClear tag [b]) s = .next (refusedWith tag .notAllowed s))
            ∧ ((s.slot b.toNat).state.active = false →
              ∃ t, exec (.recordClear tag [b]) s = .next t
                ∧ sameButQueue t (stored b.toNat TimerRecord.blank)
                ∧ t.holdsReply ⟨tag, none, false, .none⟩))

/-- TIMER_ENGAGE is refused while the clock is UNSET, and otherwise sets the engaged flag (stated:
R139). -/
def Obligations.TimerEngageSetsTheFlag : Prop :=
  ∀ (tag : Byte) (s : State), s.ready →
    (s.cku.state = .unset → exec (.timerEngage tag []) s = .next (refusedWith tag .notAllowed s))
      ∧ (s.cku.state ≠ .unset →
        ∃ t, exec (.timerEngage tag []) s = .next t ∧ t.owner = .timer
          ∧ t.holdsReply ⟨tag, none, false, .none⟩
          ∧ sameButQueue t
            (if s.pgt.engaged then s
              else
                { s with
                  pgt := { s.pgt with engaged := true }
                  tc := { s.tc with
                    pauseTimer :=
                      if s.tc.state = .recordPause then none else s.tc.pauseTimer } }))

/-- TIMER_RELEASE clears the engaged flag and gives the owner back to USER (derived:
08_programme_timer.md 8.2, 01_tape_transport.md 1.8). -/
def Obligations.TimerReleaseClearsTheFlag : Prop :=
  ∀ (tag : Byte) (s : State), s.ready → s.pgt.claim = none →
    (∀ n ∈ slots, (s.slot n).state ≠ .deferred) →
    ∃ t, exec (.timerRelease tag []) s = .next t ∧ t.owner = .user
      ∧ t.holdsReply ⟨tag, none, false, .none⟩
      ∧ sameButQueue t
        (if s.pgt.engaged then
          { s with
            pgt := { s.pgt with engaged := false }
            tc := { s.tc with
              pauseTimer :=
                if s.tc.state = .recordPause then some (s.now + 300000000)
                else s.tc.pauseTimer } }
          else s)

/-- LINE_ASSIGN, INDICATOR_SET and PATTERN_STAGE check and replace what they name (derived:
09_general_lines_and_indicators.md 9.3, 09_general_lines_and_indicators.md 9.4,
09_general_lines_and_indicators.md 9.5, 09_general_lines_and_indicators.md 9.6). -/
def Obligations.LineRequestsAct : Prop :=
  (∀ (tag : Byte) (p : List Byte) (v : PinLevel) (s : State), s.ready → p.length = 5 →
     s.lnu.lines.length = 8 →
     let i := byteAt p 0
     let result := exec (.lineAssign tag ⟨p, v⟩) s
     (7 < i → result = .next (refusedWith tag .badParameter s))
       ∧ (i ≤ 7 →
         (assignOperand p = none → result = .next (refusedWith tag .badParameter s))
           ∧ ∀ a, assignOperand p = some a →
               (a.output = true ∧ a.event.isInput = true
                   ∨ a.output = false ∧ a.event.isOutput = true →
                   result = .next (refusedWith tag .badParameter s))
                 ∧ (¬(a.output = true ∧ a.event.isInput = true)
                   → ¬(a.output = false ∧ a.event.isOutput = true) →
                   ((a.event ≠ .null ∧ ∃ j < 8, j ≠ i ∧ (s.line j).event = a.event) →
                       result = .next (refusedWith tag .conflict s))
                     ∧ (¬(a.event ≠ .null ∧ ∃ j < 8, j ≠ i ∧ (s.line j).event = a.event) →
                       ∃ t, result = .next t ∧ t.line i = a
                         ∧ t.holdsReply ⟨tag, none, false, .line a (lineLevel i t)⟩
                         ∧ sameButQueue t
                           { s with
                             lnu := { s.lnu with
                               lines := s.lnu.lines.set i a
                               settled :=
                                 if a.output then s.lnu.settled else s.lnu.settled.set i v }
                             pins := { s.pins with
                               lines :=
                                 if a.output then s.pins.lines else s.pins.lines.set i v } }))))
    ∧ (∀ (tag x y : Byte) (s : State), s.ready →
       let bits : Bits4 :=
         ⟨if x.toNat = 0 then decide (y.toNat = 1) else s.lnu.requests.a,
           if x.toNat = 1 then decide (y.toNat = 1) else s.lnu.requests.b,
           if x.toNat = 2 then decide (y.toNat = 1) else s.lnu.requests.c,
           if x.toNat = 3 then decide (y.toNat = 1) else s.lnu.requests.d⟩
       let active : Bits4 :=
         ⟨bits.a || s.pgt.engaged, bits.b || s.tc.openRec, bits.c || s.tau.endNear,
           bits.d || s.lku.latched.any (fun k => classOf s.lku.params k == .fault)⟩
       exec (.indicatorSet tag [x, y]) s = .next
           (if x.toNat ≤ 3 ∧ y.toNat ≤ 1 then
             answered tag false (.indicators bits active) s
               { s with lnu := { s.lnu with requests := bits } }
             else refusedWith tag .badParameter s)
         ∧ exec (.patternStage tag [x, y]) s = .next
           (if x.toNat ≤ 1 ∧ y.toNat ≤ 1 then
             answered tag false
               (.patterns ⟨decide (x.toNat = 1), decide (y.toNat = 1)⟩ s.lnu.applied) s
               { s with lnu := { s.lnu with
                   staged := ⟨decide (x.toNat = 1), decide (y.toNat = 1)⟩ } }
             else refusedWith tag .badParameter s))

/-- STATUS with the clear option shows what stands, then clears it, and lets a waiting loading retry
begin (derived: 10_links_requests_and_reports.md 10.7, 02_motors_and_servos.md 2.4,
01_tape_transport.md 1.10). -/
def Obligations.StatusClearActsAfterTheReply : Prop :=
  ∀ (tag b : Byte) (s : State), s.ready →
    let released (m : Motor) : Motor :=
      if m.state = .latchedOff then { m with state := .off, trips := [] } else m
    let cleared : State :=
      { s with
        lku := { s.lku with latched := [] }
        dlp := { s.dlp with dropped := 0 }
        mdu := { s.mdu with
          drum := released s.mdu.drum, capstan := released s.mdu.capstan
          reel := released s.mdu.reel, loading := released s.mdu.loading } }
    let waits : Prop := s.tc.state = .halted ∧ s.tc.haltedTimer = none ∧ s.tc.retry = .pending
    let shown : Reply := ⟨tag, none, false, .status (statusItems s)⟩
    (2 ≤ b.toNat → exec (.status tag [b]) s = .next (refusedWith tag .badParameter s))
      ∧ (¬waits → ∃ t, exec (.status tag [1]) s = .next t ∧ t.holdsReply shown
          ∧ sameButQueue t cleared)
      ∧ ∀ (failed : TState) (x y : Level), waits → s.pgt.claim = none → s.tc.startUp = false →
          s.tc.failedMove = some failed → moveOf failed = some (x, y) →
          ∃ t, exec (.status tag [1]) s = .next t ∧ t.holdsReply shown
            ∧ (s.tc.sensors.cam = .code x → t.tc.state = failed ∧ t.tc.retry = .repeating)
            ∧ (s.tc.sensors.cam ≠ .code x →
                moveOf t.tc.state = some (y, x) ∧ t.tc.retry = .returning)
            ∧ t.tc.moveTimer = some (s.now + 4000000) ∧ t.dlp.dropped = 0
            ∧ (s.tc.openRec = false → t.lku.latched = [])
            ∧ onlyDeck cleared t

/-- PARAMETER_SET clamps its value, holds it, and touches no other parameter (derived:
10_links_requests_and_reports.md 10.7, 10_links_requests_and_reports.md 10.7.1,
01_tape_transport.md 1.2, 01_tape_transport.md 1.9, 06_broadcast_data_lines.md 6.4). -/
def Obligations.ParameterSetClampsAndHolds : Prop :=
  ∀ (tag : Byte) (p : List Byte) (s : State), s.ready → p.length = 3 →
    let id := byteAt p 0
    let given := signed16At p 1
    let held : Int :=
      if id = 7 then (if given ≤ 7 then 5 else 9)
      else match paramRange id with
        | some (lo, hi) => if given < lo then lo else if hi < given then hi else given
        | none => given
    let result := exec (.parameterSet tag p) s
    (id = 0 ∨ 36 < id → result = .next (refusedWith tag .badParameter s))
      ∧ (1 ≤ id → id ≤ 36 →
        (id = 1 ∧ (s.tau.record.isSome = true ∨ s.pgt.engaged = true) →
            result = .next (refusedWith tag .notAllowed s))
          ∧ (¬(id = 1 ∧ (s.tau.record.isSome = true ∨ s.pgt.engaged = true)) →
            ∃ t, result = .next t ∧ t.lku.params.get id = held
              ∧ (∀ j, j ≠ id → t.lku.params.get j = s.lku.params.get j)
              ∧ t.holdsReply ⟨tag, none, decide (held ≠ given), .parameter held⟩
              ∧ (id ∉ [6, 10, 12, 13] →
                  sameButQueue t { s with lku := { s.lku with params := t.lku.params } })
              ∧ (id ∈ [6, 12, 13] →
                  onlyDeck { s with lku := { s.lku with params := t.lku.params } } t)
              ∧ (id = 13 →
                (s.tc.state ∈ [.play, .record, .searchFwd]
                    ∨ (s.tc.state = .windFwd ∧ s.tau.zone = .inside) →
                  t.mdu.reel.staged = ⟨.fwd, held.toNat⟩)
                ∧ (s.tc.state = .searchRev ∨ (s.tc.state = .windRev ∧ s.tau.zone = .inside) →
                  t.mdu.reel.staged = ⟨.rev, held.toNat⟩))
              ∧ (id = 10 → s.lku.params.learnSources ≠ t.lku.params.learnSources →
                  sameButQueue t { s with
                    lku := { s.lku with params := t.lku.params }
                    dlp := { s.dlp with learnCode := none, learnCount := 0 } })))

/-- RESET DECK and RESET ALL give their blocks the reset values and keep the others (the AFC offset at
RESET DECK: the model's choice, log 75) (derived: 10_links_requests_and_reports.md 10.6,
10_links_requests_and_reports.md 10.7, 10_links_requests_and_reports.md 10.7.1,
01_tape_transport.md 1.11, 08_programme_timer.md 8.3, 08_programme_timer.md 8.10,
05_tuner_and_presets.md 5.5, 05_tuner_and_presets.md 5.9). -/
def Obligations.ResetsGiveStartValues : Prop :=
  ∀ (tag : Byte) (pins : Pins) (s : State), s.ready →
    let clock := s.clock
    let raised (l : List Condition) : List Condition :=
      let m := if pins.supply.toNat < 90 then latchIn l .supplyLow else l
      if pins.dew then latchIn m .dew else m
    let fresh : Cassette := { Cassette.fresh with tab := if pins.tab then .yes else .no }
    let deck (t : State) : Prop :=
      (pins.cassette = false ∨ pins.cam = .code .c0 → t.tc.state = .empty ∧ t.tau.record = none)
        ∧ (pins.cassette = true → pins.cam = .code .c1 →
            t.tc.state = .unthreadedStop ∧ t.tau.record = some fresh)
        ∧ (pins.cassette = true → pins.cam ≠ .code .c0 → pins.cam ≠ .code .c1 →
            t.tc.state = .unthreading ∧ t.tau.record = some fresh ∧ t.tc.startUp = true
              ∧ t.tc.moveTimer = some (s.now + 4000000) ∧ t.mdu.loading.staged = ⟨.moveOut, 1023⟩)
        ∧ t.tc.goal = some ⟨.stop, .unthreadedStop⟩ ∧ t.tc.retryCount = 0
        ∧ t.tc.gate = false ∧ t.tc.sensors = sensorsOf pins ∧ motorsRun t = false
        ∧ t.svu.drumTarget = .off ∧ t.svu.capTarget = .off
        ∧ t.svu.drum.lock = .unlocked ∧ t.svu.cap.lock = .unlocked
        ∧ t.svu.drum.integrator = 0 ∧ t.svu.cap.integrator = 0
        ∧ t.tau.directory = [] ∧ t.mdu.supply = pins.supply.toNat
        ∧ t.dlp.tracker = .noLabel ∧ t.dlp.dropped = 0 ∧ t.dlp.candidate = none
        ∧ t.lnu.settled = pins.lines ∧ t.lnu.requests = ⟨false, false, false, false⟩
        ∧ t.lnu.staged = ⟨false, false⟩ ∧ t.lnu.applied = ⟨false, false⟩
        ∧ t.lku.cause = .command ∧ t.lku.live = [] ∧ t.lku.supply = .mains
        ∧ t.lku.rx = s.lku.rx ∧ t.lku.hold = s.lku.hold ∧ t.pins = pins ∧ t.now = s.now
        ∧ t.pending = s.pending ∧ t.holdsReply ⟨tag, none, false, .none⟩
    let kept (t : State) : Prop :=
      t.tau.table = s.tau.table ∧ t.dlp.filter = s.dlp.filter ∧ t.cku = s.cku
        ∧ t.lnu.lines = s.lnu.lines ∧ t.lku.params = s.lku.params ∧ t.lku.latched = raised s.lku.latched
    ((s.pgt.engaged = true → ∀ n ∈ slots, (s.slot n).state ≠ .deferred) →
        (s.pgt.claim = none →
          ∃ t, exec (.resetDeck tag pins) s = .next t ∧ deck t ∧ kept t ∧ t.tnu = s.tnu
            ∧ t.pgt = s.pgt)
          ∧ ∀ n, s.pgt.claim = some n → n ∈ slots → s.pgt.records.length = 16 →
            (s.slot n).state.active = true →
            let r := s.slot n
            let day := if r.repeats = .once then none else nextServing s.lku.params clock 1 r
            ∃ t, exec (.resetDeck tag pins) s = .next t ∧ deck t ∧ kept t
              ∧ t.tnu = { s.tnu with owner := .user } ∧ t.pgt.claim = none
              ∧ t.pgt.engaged = s.pgt.engaged
              ∧ (t.slot n).state = (if day.isSome then .armed else .ended)
              ∧ (t.slot n).start = r.start + day.getD 0 * 86400
              ∧ (t.slot n).lastResult = some .endedByReset
              ∧ (t.slot n).actualStop = (if r.actualStart.isSome then some clock else r.actualStop)
              ∧ (∀ j ∈ slots, j ≠ n → t.slot j = s.slot j))
      ∧ (∀ n, s.pgt.engaged = true → s.pgt.claim = none → n ∈ slots → s.pgt.records.length = 16 →
          (s.slot n).state = .deferred → (s.slot n).repeats = .once →
          (∀ j ∈ slots, j ≠ n → (s.slot j).state ≠ .deferred) →
          let r := s.slot n
          let late : Prop := r.deadline s.lku.params ≤ clock
          let served (t : State) : Prop := deck t ∧ kept t ∧ t.pgt.engaged = true
            ∧ ∀ j ∈ slots, j ≠ n → t.slot j = s.slot j
          let ends (res : ResultCode) : Prop :=
            ∃ t, exec (.resetDeck tag pins) s = .next t ∧ served t ∧ t.tnu = s.tnu
              ∧ t.pgt.claim = none ∧ (t.slot n).state = .ended ∧ (t.slot n).lastResult = some res
          (late → ends .missedConflict)
            ∧ (¬late →
              (∀ p, r.source = .preset p → s.tnu.preset p = none → ends .noPreset)
                ∧ (pins.cassette = false ∨ pins.cam = .code .c0 →
                  (∀ p, r.source = .preset p → s.tnu.preset p ≠ none) → ends .missedNoCassette)
                ∧ ∀ p, pins.cassette = true → pins.cam = .code .c1 → pins.tab = true →
                  pins.eot = false → r.labelControl = true → r.source = .preset p →
                  s.tnu.preset p ≠ none →
                  ∃ t, exec (.resetDeck tag pins) s = .next t ∧ served t ∧ t.pgt.claim = some n
                    ∧ (t.slot n).state = .watching ∧ (t.slot n).watchOpening = clock
                    ∧ (t.slot n).labelSeen = false ∧ t.tnu.owner = .timer
                    ∧ t.tnu.external = false ∧ t.tnu.isOn p = true))
      ∧ ∃ t, exec (.resetAll tag pins) s = .next t ∧ deck t
          ∧ t.tau.table = List.replicate 8 none ∧ t.dlp.filter = List.replicate 8 none
          ∧ t.tnu.presets = List.replicate 60 none ∧ t.tnu.limits = BandTable.default
          ∧ t.tnu.state = .idle ∧ t.tnu.lastTuned = none
          ∧ t.cku = ⟨⟨1, 1, 2000, 0, 0, 0⟩, 0, .unset, 0, none⟩
          ∧ t.pgt = ⟨List.replicate 16 TimerRecord.blank, false, none, none, none⟩
          ∧ t.lnu.lines = List.replicate 8 ⟨false, .null, false, .high⟩
          ∧ t.lku.params = Params.default ∧ t.lku.latched = raised [.clockLost]

/-- The cassette table, the filter table and the parameters are read as held, and kept or reset by
every start and reset (stated: R51, R113, R184). -/
def Obligations.StoredTablesReadAndKept : Prop :=
  (∀ (tag b : Byte) (s : State), s.ready →
        exec (.cassetteEntryRead tag [b]) s = .next
            (if 7 < b.toNat then refusedWith tag .badParameter s
              else replied tag
                (.cassetteEntry (s.tau.entry b.toNat) ((s.tau.entry b.toNat).map CassEntry.total)
                  (decide (s.tau.record.map Cassette.cls = some (.index b.toNat)))) s)
          ∧ exec (.filterRead tag [b]) s = .next
            (if 7 < b.toNat then refusedWith tag .badParameter s
              else replied tag (.filter (s.dlp.filter.getD b.toNat none)) s)
          ∧ exec (.parameterRead tag [b]) s = .next
            (if b.toNat = 0 ∨ 36 < b.toNat then refusedWith tag .badParameter s
              else replied tag (.parameter (s.lku.params.get b.toNat)) s))
    ∧ ∀ (tag : Byte) (pins : Pins) (s t : State),
        let kept := t.tau.table = s.tau.table ∧ t.dlp.filter = s.dlp.filter
          ∧ t.lku.params = s.lku.params
        let fresh := t.tau.table = List.replicate 8 none ∧ t.dlp.filter = List.replicate 8 none
          ∧ t.lku.params = Params.default
        (exec (.resetDeck tag pins) s = .next t → kept)
          ∧ (s.ready → exec (.resetAll tag pins) s = .next t → fresh)
          ∧ (s.lku.supply = .returning → s.lku.returnTimer.isSome = true →
              exec (.returnTimerExpiry pins) s = .next t →
              (pins.backupGood = true → kept) ∧ (pins.backupGood = false → fresh))

/-- A PWM period forms every channel's output by its staged request, its dead zone and its ceiling
(derived: 02_motors_and_servos.md 2.2, 02_motors_and_servos.md 2.3, 02_motors_and_servos.md 2.4,
01_tape_transport.md 1.10). -/
def Obligations.PwmPeriodFormsTheOutputs : Prop :=
  ∀ (v : Byte) (s : State), s.lku.supply = .mains →
    let p := s.lku.params
    let vEff := max s.mdu.supply 60
    let duty (m : Motor) (ceiling : Nat) : Nat :=
      min ((m.staged.duty * p.vNom + vEff / 2) / vEff) ceiling
    let rests (m : Motor) : Prop := m.staged.mode = .off ∨ m.staged.mode = .brake
    let stands (m : Motor) : Prop := m.state = .off ∨ m.state = .driving
    let bridge (dz ceiling : Nat) (m x : Motor) : Prop :=
      (stands m → rests m →
          x = { m with state := .off, applied := ⟨m.staged.mode, 0⟩
                       offCount := if m.offCount < 15 then m.offCount + 1 else 15 })
        ∧ (stands m → ¬rests m →
          (m.lastDir = none ∨ m.lastDir = some m.staged.mode ∨ dz ≤ m.offCount) →
          x = { m with state := .driving, applied := ⟨m.staged.mode, duty m ceiling⟩
                       lastDir := some m.staged.mode, offCount := 0 })
        ∧ (stands m → ¬rests m →
          ¬(m.lastDir = none ∨ m.lastDir = some m.staged.mode ∨ dz ≤ m.offCount) →
          x.state = .driving ∧ x.applied = ⟨.off, 0⟩ ∧ x.lastDir = m.lastDir
            ∧ (m.offCount < 15 → x.offCount = m.offCount + 1))
        ∧ (¬stands m → x.state = m.state ∧ x.applied = m.applied ∧ x.lastDir = m.lastDir)
    let low : Prop := v.toNat < 90 ∧ 90 ≤ s.mdu.supply
    let runs (m : Motor) : Prop := m.state = .recovering ∨ (stands m ∧ ¬rests m)
    let halts : Prop := low ∧ p.classSupplyLow = .fault ∧ s.tc.state ∉ [.halted, .lockedOut, .powerDown]
      ∧ (runs s.mdu.drum ∨ runs s.mdu.capstan ∨ runs s.mdu.reel ∨ runs s.mdu.loading)
    (halts → s.pgt.claim = none → (s.tc.gate = true → s.tc.state = .record) →
      ∃ t, exec (.pwmPeriodStart v) s = .next t
        ∧ t.tc.state = .halted ∧ t.tc.haltedTimer = some (max s.now (s.mdu.periodStart + 128) + 1000000)
        ∧ motorsRun t = false ∧ t.mdu.reel.applied = ⟨.brake, 0⟩ ∧ t.tc.gate = false
        ∧ t.tc.openRec = false ∧ t.mdu.supply = v.toNat ∧ .supplyLow ∈ t.lku.latched
        ∧ onlyDeck { s with pins := { s.pins with supply := v } } t)
    ∧ (¬halts → ∃ t, exec (.pwmPeriodStart v) s = .next t
      ∧ t.mdu.supply = v.toNat ∧ t.mdu.periodCounter = 0
      ∧ t.now = max s.now (s.mdu.periodStart + 128) ∧ t.mdu.periodStart = t.now
      ∧ t.lku.latched
          = (if v.toNat < 90 ∧ 90 ≤ s.mdu.supply then latchIn s.lku.latched .supplyLow
              else s.lku.latched)
      ∧ (stands s.mdu.drum → t.mdu.drum =
          if s.mdu.drum.staged.mode = .off ∨ s.mdu.drum.staged.mode = .brake then
            { s.mdu.drum with state := .off, applied := ⟨s.mdu.drum.staged.mode, 0⟩ }
          else
            { s.mdu.drum with state := .driving, applied := ⟨.run, duty s.mdu.drum p.ceiling.drum⟩ })
      ∧ bridge p.dzReel p.ceiling.reel s.mdu.reel t.mdu.reel
      ∧ bridge p.dzLoading p.ceiling.loading s.mdu.loading t.mdu.loading
      ∧ (stands s.mdu.capstan → s.mdu.capstan.staged.mode = .fwd →
          t.mdu.capReverse = false ∧ t.mdu.capstan.state = .driving ∧ t.mdu.capstan.applied
            = ⟨.fwd, if s.mdu.capReverse then 0 else duty s.mdu.capstan p.ceiling.capstan⟩)
      ∧ (stands s.mdu.capstan → s.mdu.capstan.staged.mode = .rev →
          t.mdu.capReverse = true ∧ t.mdu.capstan.state = .driving ∧ t.mdu.capstan.applied
            = ⟨.rev, if s.mdu.capReverse then duty s.mdu.capstan p.ceiling.capstan else 0⟩)
      ∧ (stands s.mdu.capstan → s.mdu.capstan.staged.mode = .hold →
          t.mdu.capReverse = false ∧ t.mdu.capstan.state = .driving
            ∧ t.mdu.capstan.applied = ⟨.hold, 0⟩)
      ∧ (¬stands s.mdu.drum → t.mdu.drum = s.mdu.drum)
      ∧ (¬stands s.mdu.capstan → t.mdu.capstan = s.mdu.capstan ∧ t.mdu.capReverse = s.mdu.capReverse)
      ∧ (stands s.mdu.capstan → rests s.mdu.capstan → t.mdu.capReverse = s.mdu.capReverse
          ∧ t.mdu.capstan
            = { s.mdu.capstan with state := .off, applied := ⟨s.mdu.capstan.staged.mode, 0⟩ })
      ∧ sameButQueue t
          { s with mdu := t.mdu, now := t.now, pins := { s.pins with supply := v }
                   lku := { s.lku with latched := t.lku.latched } })

/-- A trip begins a recovery of 20 ms, or latches the channel off and halts the transport (derived:
02_motors_and_servos.md 2.4, 01_tape_transport.md 1.10). -/
def Obligations.TripsRecoverOrLatchOff : Prop :=
  ∀ (dt due : Tick) (c : Channel) (s : State), s.lku.supply = .mains →
    let m := s.mdu.motor c
    let watched : Prop :=
      m.state = .driving ∧ m.applied.mode ≠ .off ∧ m.applied.mode ≠ .brake
    let now := s.now + dt
    let recent := m.trips.filter (fun t => decide (now ≤ t + 1000000))
    (¬watched → exec (.overcurrentTrip dt c) s = .next (publish s { s with now := now }))
      ∧ (watched → s.lku.params.policy.of c = .recover → recent.length < 7 →
        ∃ t, exec (.overcurrentTrip dt c) s = .next t
          ∧ sameButQueue t
            { s with
              now := now
              mdu := s.mdu.withMotor c
                { m with applied := ⟨.off, 0⟩, state := .recovering, trips := recent ++ [now]
                         recoveryTimer := some (now + 20000) }
              lku := { s.lku with live := alertIn s.lku.live c true } })
      ∧ (watched → c ≠ .loading → s.pgt.claim = none →
          s.tc.state ∉ [.halted, .lockedOut, .powerDown] →
          (s.lku.params.policy.of c = .latch
            ∨ (s.lku.params.policy.of c = .recover ∧ 7 ≤ recent.length)) →
        ∃ t, exec (.overcurrentTrip dt c) s = .next t
          ∧ (t.mdu.motor c).state = .latchedOff ∧ motorsRun t = false
          ∧ t.tc.state = .halted ∧ t.tc.haltedTimer = some (now + 1000000) ∧ t.now = now
          ∧ (s.tc.openRec = false → t.lku.latched = latchIn s.lku.latched
              (if s.lku.params.policy.of c = .latch then .overcurrent c else .recoveryExpired c))
          ∧ (if s.lku.params.policy.of c = .latch then .overcurrent c else .recoveryExpired c)
              ∈ t.lku.latched
          ∧ onlyDeck s t)
      ∧ (m.recoveryTimer = some due →
        ∃ t, exec (.recoveryEnd c) s = .next t
          ∧ sameButQueue t
            { s with
              now := max s.now due
              mdu := s.mdu.withMotor c
                { m with
                  state := if m.staged.mode = .off ∨ m.staged.mode = .brake then .off else .driving
                  recoveries := if m.recoveries < 65535 then m.recoveries + 1 else 65535
                  recoveryTimer := none }
              lku := { s.lku with live := alertIn s.lku.live c false } })

/-- A reference frame pulse applies the staged pattern and targets and has the CTL pulse written
(derived: 02_motors_and_servos.md 2.5, 04_cue_marks_and_the_cassette_directory.md 4.1,
09_general_lines_and_indicators.md 9.6). -/
def Obligations.FramePulseAppliesWhatIsStaged : Prop :=
  ∀ (dt : Tick) (s : State), s.lku.supply = .mains →
    let video := s.svu.drumTarget = .run .video
    let frame := framePeriod s.lku.params.fieldSystem
    let pulsed (now : Tick) (wait : Bool) : State :=
      { s with
        now := now
        svu := { s.svu with lastRef := now, genPeriod := frame, refWait := wait }
        lnu := { s.lnu with applied := s.lnu.staged }
        tau := if s.tc.gate then
            { s.tau with
              ctlHigh := some (if s.tau.markCount = 0 then frame * 27 / 100 else frame * 60 / 100)
              markCount := s.tau.markCount - 1 }
          else s.tau }
    let due := s.svu.lastRef
      + (if s.svu.refWait then s.svu.genPeriod * 3 / 2 else s.svu.genPeriod)
    (s.svu.drumStaged = none → s.svu.capStaged = none →
        (exec .internalFramePulse s = .next (publish s (pulsed (max s.now due) false)))
          ∧ (video → s.svu.lastRef ≠ s.now + dt →
            exec (.videoFramePulse dt) s = .next (publish s (pulsed (s.now + dt) true))))
      ∧ (¬video → exec (.videoFramePulse dt) s = .next (publish s { s with now := s.now + dt }))
      ∧ (∀ r : DrumRef, s.svu.drumStaged = some (.run r) → s.svu.drumTarget = .off →
          s.svu.capStaged = none → s.svu.drum.lock = .unlocked →
          ∃ t, exec .internalFramePulse s = .next t
            ∧ t.svu.drumTarget = .run r ∧ t.svu.drumStaged = none ∧ t.svu.drum.lock = .unlocked
            ∧ t.svu.drum.integrator = s.svu.drum.integrator ∧ t.svu.drum.runStart = t.now
            ∧ t.svu.drum.lastPulse = none ∧ t.now = max s.now due ∧ t.svu.lastRef = t.now
            ∧ t.mdu.drum.staged
                = ⟨.run, (max 0 (min (s.lku.params.ceiling.drum : Int)
                    (s.lku.params.drumGains.base + s.svu.drum.integrator / 256))).toNat⟩
            ∧ t.lnu.applied = s.lnu.staged)
      ∧ ∀ r r' : DrumRef, s.svu.drumTarget = .run r → s.svu.drumStaged = some (.run r') → r ≠ r' →
          s.svu.capStaged = none → s.tc.state ≠ .record → s.tc.lockWait = false →
          ∃ t, exec .internalFramePulse s = .next t
            ∧ t.svu.drumTarget = .run r' ∧ t.svu.drumStaged = none
            ∧ t.svu.drum = { s.svu.drum with
                lock := if s.svu.drum.lock = .phaseLock then .speedLock else s.svu.drum.lock
                phaseIn := 0, phaseOut := 0 }
            ∧ t.mdu = s.mdu ∧ t.tc = s.tc ∧ t.now = max s.now due

/-- Each measurement of a servo loop gives its duty and its speed lock; a PG pulse and a CTL pulse
give the phase lock; TC acts on the locks (derived: 02_motors_and_servos.md 2.6,
02_motors_and_servos.md 2.7, 02_motors_and_servos.md 2.9, 01_tape_transport.md 1.6). -/
def Obligations.MeasurementsDriveTheLoops : Prop :=
  ∀ (dt : Tick) (s : State), s.lku.supply = .mains →
    (s.tc.lockWait = true →
      s.tc.state = .engaging ∧ s.pgt.claim = none ∧ s.tc.sensors.eot = false) →
    let now := s.now + dt
    let frame := framePeriod s.lku.params.fieldSystem
    let integral (g : Gains) (l : ServoLoop) (e : Int) : Int :=
      max (-8388607) (min 8388607 (l.integrator + g.ki * e))
    let duty (g : Gains) (ceiling : Nat) (l : ServoLoop) (e : Int) : Nat :=
      (max 0 (min (ceiling : Int)
        ((g.base : Int) + (g.kp * e) / 16 + integral g l e / 256 + l.phaseTerm.getD 0))).toNat
    let speed (period : Nat) (g : Gains) (e : Int) (pulse : Tick) (l : ServoLoop) : ServoLoop :=
      let x := { l with integrator := integral g l e, lastPulse := some pulse }
      if l.lock = .unlocked then
        let count := if e.natAbs ≤ period / 64 then l.inBand + 1 else 0
        if 16 ≤ count then
          { x with lock := .speedLock, inBand := 0, outBand := 0, phaseIn := 0, phaseOut := 0 }
        else { x with inBand := count }
      else
        let count := if period / 16 < e.natAbs then l.outBand + 1 else 0
        if 4 ≤ count then
          { x with lock := .unlocked, inBand := 0, outBand := 0, phaseIn := 0, phaseOut := 0
                   phaseTerm := none }
        else { x with outBand := count }
    let phase (kph : Nat) (d : Int) (l : ServoLoop) : ServoLoop :=
      let p := if (frame / 2 : Int) < d % frame then d % frame - frame else d % frame
      let x := { l with phaseTerm := some (kph * p / 16) }
      match l.lock with
      | .unlocked => l
      | .speedLock =>
          let count := if p.natAbs ≤ frame / 64 then l.phaseIn + 1 else 0
          if 8 ≤ count then { x with lock := .phaseLock, phaseIn := 8 } else { x with phaseIn := count }
      | .phaseLock =>
          let count := if frame / 16 < p.natAbs then l.phaseOut + 1 else 0
          if 4 ≤ count then { x with lock := .speedLock, phaseIn := 0, phaseOut := 0 }
          else { x with phaseOut := count }
    let tcAfter (held changed : Bool) (pulse : Tick) : Tc :=
      { s.tc with recordLockTimer :=
        if s.tc.state = .record ∧ changed = true then
          if held then none else some (s.tc.recordLockTimer.getD (pulse + 3000000))
        else s.tc.recordLockTimer }
    let drumFollows (pulse : Tick) (e : Int) (x : ServoLoop) (t : State) : Prop :=
      let held := x.lock = .phaseLock ∧ s.svu.cap.lock ≠ .unlocked
      let staged := { s.mdu.drum with
        staged := ⟨.run, duty s.lku.params.drumGains s.lku.params.ceiling.drum s.svu.drum e⟩ }
      t.svu.drum = x ∧ t.mdu.drum = staged ∧ t.now = pulse ∧ onlyDeck s t
        ∧ (s.tc.lockWait = false ∨ x.lock = s.svu.drum.lock → sameButQueue t
          { s with
            now := pulse, svu := { s.svu with drum := x }, mdu := { s.mdu with drum := staged }
            tc := tcAfter (decide held) (decide (x.lock ≠ s.svu.drum.lock)) pulse })
        ∧ (s.tc.lockWait = true → x.lock ≠ s.svu.drum.lock →
          t.tc.state = if held then .record else .engaging)
    let capFollows (reverse : Bool) (pulse : Tick) (e : Int) (x : ServoLoop) (t : State) : Prop :=
      let held := s.svu.drum.lock = .phaseLock ∧ x.lock ≠ .unlocked
      let staged := { s.mdu.capstan with
        staged := ⟨if reverse then .rev else .fwd,
          duty s.lku.params.capGains s.lku.params.ceiling.capstan s.svu.cap e⟩ }
      t.svu.cap = x ∧ t.mdu.capstan = staged ∧ t.now = pulse ∧ onlyDeck s t
        ∧ (s.tc.lockWait = false ∨ x.lock = s.svu.cap.lock →
          t.svu = { s.svu with cap := x } ∧ t.mdu = { s.mdu with capstan := staged, reel := t.mdu.reel }
            ∧ t.tc = tcAfter (decide held) (decide (x.lock ≠ s.svu.cap.lock)) pulse)
        ∧ (s.tc.lockWait = true → x.lock ≠ s.svu.cap.lock →
          t.tc.state = if held then .record else .engaging)
    (∀ r, s.svu.drumTarget = .run r →
        let g := s.lku.params.drumGains
        let start := s.svu.drum.lastPulse.getD s.svu.drum.runStart
        (∀ before, s.svu.drum.lastPulse = some before →
            let e : Int := min (now - before) 16777215 - (frame : Int)
            ∃ t, exec (.drumPgPulse dt) s = .next t
              ∧ drumFollows now e (phase g.kph ((now : Int) - s.svu.lastRef) (speed frame g e now s.svu.drum)) t)
          ∧ (s.svu.drum.lastPulse = none → exec (.drumPgPulse dt) s = .next (publish s
              { s with now := now
                       svu := { s.svu with drum := { s.svu.drum with lastPulse := some now } } }))
          ∧ (let pulse := max s.now (start + 4 * frame)
             let e : Int := min (pulse - start) 16777215 - (frame : Int)
             ∃ t, exec (.missingPulseMeasurement .drum) s = .next t
               ∧ drumFollows pulse e (speed frame g e pulse s.svu.drum) t))
      ∧ (s.svu.drumTarget = .off →
          exec (.drumPgPulse dt) s = .next (publish s { s with now := now }))
      ∧ (∀ reverse k m, s.svu.capTarget = .run reverse k m →
          let g := s.lku.params.capGains
          let period := roundDiv (1000000 * k) (frameRate s.lku.params.fieldSystem * 12 * m)
          let start := s.svu.cap.lastPulse.getD s.svu.cap.runStart
          (∀ before, s.svu.cap.lastPulse = some before →
              let e : Int := min (now - before) 16777215 - (period : Int)
              ∃ t, exec (.capstanFgPulse dt) s = .next t
                ∧ capFollows reverse now e (speed period g e now s.svu.cap) t)
            ∧ (s.svu.cap.lastPulse = none →
              ∃ t, exec (.capstanFgPulse dt) s = .next t
                ∧ t.svu = { s.svu with cap := { s.svu.cap with lastPulse := some now } }
                ∧ t.mdu.capstan = s.mdu.capstan ∧ t.tc = s.tc ∧ onlyDeck s t)
            ∧ (let pulse := max s.now (start + 4 * period)
               let e : Int := min (pulse - start) 16777215 - (period : Int)
               ∃ t, exec (.missingPulseMeasurement .capstan) s = .next t
                 ∧ capFollows reverse pulse e (speed period g e pulse s.svu.cap) t))
      ∧ (s.svu.capTarget = .off ∨ s.svu.capTarget = .hold →
          (∃ t, exec (.capstanFgPulse dt) s = .next t
            ∧ t.svu = s.svu ∧ t.mdu.capstan = s.mdu.capstan ∧ t.tc = s.tc ∧ onlyDeck s t)
          ∧ exec (.missingPulseMeasurement .capstan) s = .next (publish s s))
      ∧ (s.tc.state = .play → s.svu.ident = .complete → s.pgt.claim = none →
          ∃ t, exec (.ctlPulse dt .rising) s = .next t
            ∧ t.svu = { s.svu with
                watchdog := some (now + 1000000)
                cap := phase s.lku.params.capGains.kph
                  ((now : Int) - s.svu.lastRef - Int.tdiv (s.lku.params.tracking * frame) 256) s.svu.cap }
            ∧ t.mdu = s.mdu ∧ t.tc.state = .play ∧ t.now = now ∧ onlyDeck s t)

/-- Twelve FG pulses move the position and the counter by one SP frame, either way; reel pulses
measure the wraps (derived: 03_tape_accounting.md 3.3, 03_tape_accounting.md 3.6,
03_tape_accounting.md 3.7, 01_tape_transport.md 1.7, 04_cue_marks_and_the_cassette_directory.md
4.3, 04_cue_marks_and_the_cassette_directory.md 4.4). -/
def Obligations.FgAndReelPulsesAccountTheTape : Prop :=
  ∀ (dt : Tick) (s : State) (r : Cassette), s.lku.supply = .mains → s.tau.record = some r →
    (s.tc.lockWait = false →
      let count := if s.mdu.capReverse then s.tau.fgStep - 1 else s.tau.fgStep + 1
      let tcKept (t : State) : Prop := t.tc = { s.tc with recordLockTimer := t.tc.recordLockTimer }
      let moved (forward : Bool) (t : State) : Prop :=
        let held (p : Nat) : Nat := match s.tau.classEntry with
          | some e => min p e.total
          | none => p
        let k := s.tau.seek
        t.tau.fgStep = 0
          ∧ t.tau.record = some { r with
              position := r.position.map (fun p => held (if forward then p + 1 else p - 1))
              counter := max (-1080000) (min 1080000 (if forward then r.counter + 1 else r.counter - 1)) }
          ∧ t.tau.seek = (if k.counting then
              { k with travel := max (-1080000) (min 1080000
                (if forward = k.reverse then k.travel - 1 else k.travel + 1)) }
              else k)
          ∧ (∀ e ∈ t.tau.directory, e ∈ s.tau.directory) ∧ tcKept t ∧ onlyDeck s t
      (s.tc.sensors.cam ≠ .code .c3 ∨ (count ≠ 12 ∧ count ≠ -12) →
          ∃ t, exec (.capstanFgPulse dt) s = .next t
            ∧ t.tau.fgStep = (if s.tc.sensors.cam = .code .c3 then count else s.tau.fgStep)
            ∧ t.tau.record = some r ∧ t.tau.directory = s.tau.directory ∧ t.tau.seek = s.tau.seek
            ∧ tcKept t ∧ onlyDeck s t)
        ∧ (s.tc.sensors.cam = .code .c3 → count = 12 →
          ∃ t, exec (.capstanFgPulse dt) s = .next t ∧ moved true t)
        ∧ (s.tc.sensors.cam = .code .c3 → count = -12 →
          ∃ t, exec (.capstanFgPulse dt) s = .next t ∧ moved false t)
        ∧ (s.tc.state.isDrive = true →
          ∃ t, exec (.capstanFgPulse dt) s = .next t
            ∧ t.tau.supplyRev = (if s.tau.supplyRev.measuring then
                { s.tau.supplyRev with fg :=
                  if s.tau.supplyRev.fg < 65535 then s.tau.supplyRev.fg + 1 else 65535 }
                else s.tau.supplyRev)
            ∧ t.tau.takeUpRev = (if s.tau.takeUpRev.measuring then
                { s.tau.takeUpRev with fg :=
                  if s.tau.takeUpRev.fg < 65535 then s.tau.takeUpRev.fg + 1 else 65535 }
                else s.tau.takeUpRev)))
      ∧ (s.tc.state.isDrive = true →
        let m := s.tau.takeUpRev
        let now := s.now + dt
        let taken (x : RevMeas) (rec : Cassette) (fresh : Bool) : State :=
          { s with
            now := now
            tc := { s.tc with
              stallTimer :=
                if s.tc.state = .searchRev then s.tc.stallTimer
                else if s.tc.state = .searchFwd then some (now + 1000000)
                else some (now + 3000000) }
            tau := { s.tau with takeUpRev := x, record := some rec, takeUpFresh := fresh } }
        exec (.reelPulse dt .takeUp) s = .next (publish s
          (if m.measuring = false then taken ⟨true, 0, 0, now⟩ r s.tau.takeUpFresh
            else if m.pulses = 0 then taken { m with pulses := 1 } r s.tau.takeUpFresh
            else taken ⟨true, 0, 0, now⟩ { r with wt := some (min ((m.fg + 1) / 3) 4095) } true)))
      ∧ (s.tc.state.isDrive = false → s.tc.state.isWind = false →
          exec (.reelPulse dt .takeUp) s = .next (publish s { s with now := s.now + dt }))

/-- CTL edges fill the window; 32 long pulses are a mark, entered and counted; nine pulses give the
play speed, none a blank tape (derived: 04_cue_marks_and_the_cassette_directory.md 4.2,
04_cue_marks_and_the_cassette_directory.md 4.3, 04_cue_marks_and_the_cassette_directory.md 4.4,
02_motors_and_servos.md 2.8). -/
def Obligations.CtlPulsesClassifiedAndWatched : Prop :=
  ∀ (dt due : Tick) (s : State), s.lku.supply = .mains →
    let now := s.now + dt
    let fresh : CtlEdge := ⟨now, none, s.tau.position, s.tau.seek.travel⟩
    (s.tc.state = .play ∨ s.tc.state = .searchFwd ∨ s.tc.state = .searchRev →
        ∀ e, s.tau.edge = some e → exec (.ctlPulse dt .falling) s = .next (publish s
          { s with
            now := now
            tau := { s.tau with
              edge := some { e with high := some (min (now - e.time) 16777215) } } }))
      ∧ (s.tc.state = .searchFwd ∨ s.tc.state = .searchRev → s.tau.edge = none →
          exec (.ctlPulse dt .rising) s = .next (publish s
            { s with now := now, tau := { s.tau with edge := some fresh } }))
      ∧ (s.tc.state = .play ∨ s.tc.state = .searchFwd ∨ s.tc.state = .searchRev →
        s.tc.lockWait = false → s.pgt.claim = none → s.tc.sensors.eot = false →
        s.tc.openRec = false → ∀ e, s.tau.edge = some e →
        let entry : WindowEntry := ⟨(match e.high with
          | some h => decide (min (now - e.time) 16777215 * 45 < h * 100)
          | none => false), e.position, e.travel⟩
        let window := (s.tau.window ++ [entry]).drop (s.tau.window.length + 1 - 48)
        let long := window.filter WindowEntry.long
        (long.length < 32 →
            ∃ t, exec (.ctlPulse dt .rising) s = .next t
              ∧ t.tau.window = window ∧ t.tau.edge = some fresh ∧ t.tau.seek = s.tau.seek
              ∧ t.tau.directory = s.tau.directory ∧ t.tc = s.tc ∧ t.now = now ∧ onlyDeck s t)
          ∧ ∀ mark, (if s.tc.state = .searchRev then long.getLast? else long.head?) = some mark →
            32 ≤ long.length →
            let k := s.tau.seek
            let counted := k.state = .seeking ∧ k.counting = true ∧ 60 < mark.travel
            ∃ t, exec (.ctlPulse dt .rising) s = .next t ∧ t.now = now ∧ onlyDeck s t
              ∧ t.tau.window = []
              ∧ (¬counted → t.tau.seek = k ∧ t.tc = s.tc ∧ t.tau.edge = some fresh)
              ∧ (counted → k.found + 1 < k.count →
                t.tau.seek = { k with found := k.found + 1 } ∧ t.tc = s.tc ∧ t.tau.edge = some fresh)
              ∧ (counted → k.count ≤ k.found + 1 →
                t.tau.seek = { k with
                    state := .found, found := k.found + 1, foundPos := mark.position, counting := false }
                  ∧ t.tc.state = .play ∧ t.tc.goal = some ⟨.play, .play⟩
                  ∧ (s.tc.state ≠ .play → t.tau.edge = none ∧ t.svu.ident = .running none 0 0
                    ∧ t.svu.watchdog = some (now + 1000000)
                    ∧ t.svu.capStaged = some (.run false 1 1)))
              ∧ (let clear (p : Nat) : Prop := ∀ x ∈ s.tau.directory,
                   60 < distance x.start p
                     ∧ ∀ stop ∈ x.stop.or (if s.tau.inProgress = some x.start then s.tau.position else none),
                       ¬(x.start ≤ p ∧ p < stop)
                 (∀ p, mark.position = some p → clear p →
                    let found : DirEntry :=
                      ⟨p, none, t.tau.record.bind Cassette.speed, .found, none, none, none⟩
                    (s.tau.directory.length < 16 →
                        t.tau.directory.length = s.tau.directory.length + 1
                          ∧ found ∈ t.tau.directory ∧ ∀ x ∈ s.tau.directory, x ∈ t.tau.directory)
                      ∧ (16 ≤ s.tau.directory.length → (∃ x ∈ s.tau.directory, x.origin = .found) →
                        t.tau.directory.length = s.tau.directory.length ∧ found ∈ t.tau.directory
                          ∧ ∀ x ∈ s.tau.directory, x.origin ≠ .found → x ∈ t.tau.directory)
                      ∧ (16 ≤ s.tau.directory.length → (∀ x ∈ s.tau.directory, x.origin ≠ .found) →
                        t.tau.directory = s.tau.directory ∧ .directoryFull ∈ t.lku.latched))
                   ∧ ((∀ p, mark.position = some p → ¬clear p) →
                    t.tau.directory = s.tau.directory)))
      ∧ (s.tc.state = .play → s.tc.lockWait = false → s.pgt.claim = none →
        let ident (x : Ident) (v : Option CapTarget) (t : State) : Prop :=
          t.svu = { s.svu with watchdog := some (now + 1000000), ident := x, capStaged := v }
            ∧ t.now = now ∧ t.tc.state = .play ∧ onlyDeck s t
        let speedKept (t : State) : Prop :=
          t.tau.record.bind Cassette.speed = s.tau.record.bind Cassette.speed
        (∀ n sum, s.svu.ident = .running none n sum →
            ∃ t, exec (.ctlPulse dt .rising) s = .next t
              ∧ ident (.running (some now) n sum) s.svu.capStaged t ∧ speedKept t)
          ∧ (s.svu.ident = .blank →
            ∃ t, exec (.ctlPulse dt .rising) s = .next t
              ∧ ident (.running (some now) 0 0) s.svu.capStaged t ∧ speedKept t)
          ∧ ∀ before n sum, s.svu.ident = .running (some before) n sum →
            let total := sum + min (now - before) 16777215
            (n < 7 → ∃ t, exec (.ctlPulse dt .rising) s = .next t
                ∧ ident (.running (some now) (n + 1) total) s.svu.capStaged t ∧ speedKept t)
              ∧ (7 ≤ n → 8 ≤ total →
                let f := s.lku.params.fieldSystem
                let k := max 1 (min (if f = .f60 then 3 else 2) (roundDiv (framePeriod f) (total / 8)))
                ∃ t, exec (.ctlPulse dt .rising) s = .next t
                  ∧ ident .complete (some (.run false k 1)) t
                  ∧ t.tau.record.bind Cassette.speed
                    = s.tau.record.map (fun _ => if k = 1 then .sp else if k = 2 then .lp else .ep)))
      ∧ (s.tc.state.isReading = false → ∀ e,
          exec (.ctlPulse dt e) s = .next (publish s { s with now := now }))
      ∧ (s.svu.watchdog = some due →
        let blank (v : Svu) : State :=
          { s with
            now := max s.now due, svu := v
            tau := { s.tau with
              record := s.tau.record.map (fun r => { r with speed := none }) } }
        (s.svu.ident ≠ .complete →
            exec .ctlWatchdogExpiry s
              = .next (publish s (blank { s.svu with watchdog := none, ident := .blank })))
          ∧ (s.svu.ident = .complete → s.tc.state = .play → s.tc.lockWait = false →
            let lost := s.svu.cap.lock = .phaseLock
            ∃ t, exec .ctlWatchdogExpiry s = .next t
              ∧ sameButQueue t (blank { s.svu with
                  watchdog := none, ident := .blank, capStaged := some (.run false 1 1)
                  cap := { s.svu.cap with
                    phaseTerm := none
                    lock := if lost then .speedLock else s.svu.cap.lock
                    phaseIn := if lost then 0 else s.svu.cap.phaseIn
                    phaseOut := if lost then 0 else s.svu.cap.phaseOut } })))

/-- The word transfer, the settling timer and the AFC timer each do their part when they run out
(derived: 05_tuner_and_presets.md 5.1, 05_tuner_and_presets.md 5.2, 05_tuner_and_presets.md 5.5). -/
def Obligations.TunerTimersAct : Prop :=
  ∀ (low high : Bool) (due : Tick) (s : State), s.lku.supply = .mains →
    let now := max s.now due
    (s.tnu.wordTimer = some due →
        (s.tnu.wordPending = false ∨ s.tnu.base = none →
          exec .wordTransferEnd s = .next (publish s
            { s with now := now
                     tnu := { s.tnu with word := none, wordTimer := none, wordPending := false } }))
          ∧ ∀ b d, s.tnu.wordPending = true → s.tnu.band = some b → s.tnu.base = some d →
              exec .wordTransferEnd s = .next (publish s
                { s with
                  now := now
                  tnu := { s.tnu with
                    word := some ⟨b, d + s.tnu.fine + s.tnu.afc⟩, wordPending := false
                    bandOut := some b, wordTimer := some (now + 180) } }))
      ∧ (s.tnu.settleTimer = some due →
          exec .settlingExpiry s = .next (publish s
            { s with
              now := now
              tnu := { s.tnu with
                state := .tuned, settleTimer := none, afcTimer := some (now + 100000) } }))
      ∧ (s.tnu.afcTimer = some due →
        let step : Int :=
          if low = true ∧ high = false then 1 else if low = false ∧ high = true then -1 else 0
        let restarted : State :=
          { s with now := now, tnu := { s.tnu with afcTimer := some (now + 100000) } }
        (s.tnu.afcRuns = false →
            exec (.afcTimerExpiry low high) s = .next (publish s restarted))
          ∧ (s.tnu.afcRuns = true → -4 ≤ s.tnu.afc + step → s.tnu.afc + step ≤ 4 →
            ∃ t, exec (.afcTimerExpiry low high) s = .next t
              ∧ t.tnu.afc = s.tnu.afc + step ∧ t.tnu.state = s.tnu.state
              ∧ t.tnu.base = s.tnu.base ∧ t.tnu.fine = s.tnu.fine ∧ t.tnu.source = s.tnu.source
              ∧ t.tnu.afcTimer = some (now + 100000) ∧ t.tnu.afcAtLimit = false
              ∧ (∀ b d, step ≠ 0 → s.tnu.band = some b → s.tnu.base = some d →
                  (s.tnu.wordTimer = none →
                      t.tnu.word = some ⟨b, d + s.tnu.fine + (s.tnu.afc + step)⟩
                        ∧ t.tnu.wordTimer = some (now + 180) ∧ t.tnu.bandOut = some b)
                    ∧ (s.tnu.wordTimer.isSome = true → t.tnu.word = s.tnu.word
                        ∧ t.tnu.wordTimer = s.tnu.wordTimer ∧ t.tnu.wordPending = true))
              ∧ (step = 0 → sameButQueue t
                  { restarted with tnu := { restarted.tnu with afcAtLimit := false } })
              ∧ t.lku.latched = s.lku.latched ∧ t.now = now
              ∧ onlyTuning { s with now := now } t)
          ∧ (s.tnu.afcRuns = true → s.tnu.afc + step < -4 ∨ 4 < s.tnu.afc + step →
            ∃ t, exec (.afcTimerExpiry low high) s = .next t
              ∧ sameButQueue t
                { restarted with
                  tnu := { restarted.tnu with afcAtLimit := true }
                  lku := { s.lku with
                    latched :=
                      if s.tnu.afcAtLimit then s.lku.latched
                      else latchIn s.lku.latched .afcLimit } }))

/-- A scan moves on by strides, confirms sync three times, steps finely and keeps the station
(derived: 05_tuner_and_presets.md 5.6, 05_tuner_and_presets.md 5.7). -/
def Obligations.ScansStepAndFindStations : Prop :=
  ∀ (low high : Bool) (due : Tick) (b : Int) (band : Band) (s : State), s.lku.supply = .mains →
    s.pgt.claim = none → s.tnu.base = some b → s.tnu.band = some band →
    let now := max s.now due
    let k := s.tnu.scan
    let lim := s.tnu.limits.limit band
    (s.tnu.scanTimer = some due → k.phase = .settling ∨ k.phase = .checking →
        exec (.syncSample true) s = .next (publish s
            { s with
              now := now
              tnu := { s.tnu with
                scanTimer := some (now + 20000)
                scan := { k with
                  phase := if k.detections + 1 < 3 then .checking else .fineStepping
                  detections := k.detections + 1 } } })
          ∧ (s.tnu.state = .searching → k.up = true → k.wrapped = false → b + 16 ≤ lim.hi →
            ∃ t, exec (.syncSample false) s = .next t
              ∧ t.tnu.state = .searching ∧ t.tnu.source = .scan ∧ t.tnu.base = some (b + 16)
              ∧ t.tnu.scan = { k with phase := .settling, detections := 0, steps := 0 }
              ∧ t.tnu.scanTimer = some (now + 80000) ∧ t.tnu.searchResult = s.tnu.searchResult
              ∧ onlyTuning { s with now := now } t))
      ∧ (s.tnu.scanTimer = some due → k.phase = .fineStepping →
        (low = high → s.tnu.state = .searching →
            exec (.fineStepRead low high) s = .next (publish s
              { s with
                now := now
                tnu := { s.tnu with
                  scanTimer := none, scan := { k with phase := .idle }, searchResult := .found
                  foundDivider := some b, source := .direct, fine := 0, state := .tuned
                  afcTimer := some (now + 100000) } }))
          ∧ (low ≠ high → k.steps + 1 < 16 →
            ∃ t, exec (.fineStepRead low high) s = .next t
              ∧ t.tnu.base = some (if low then b + 1 else b - 1) ∧ t.tnu.band = some band
              ∧ t.tnu.state = s.tnu.state ∧ t.tnu.source = s.tnu.source
              ∧ t.tnu.scan = { k with steps := k.steps + 1 }
              ∧ t.tnu.scanTimer = some (now + 20000) ∧ onlyTuning { s with now := now } t))
      ∧ ∀ x, s.tnu.dwellTimer = some due → s.tnu.candidate = some x →
          s.tnu.state = .installing → k.up = true → b + 32 ≤ lim.hi → s.tnu.installNext < 60 →
          s.tnu.duplicate x = false →
          ∃ t, exec .dwellExpiry s = .next t
            ∧ t.tnu.presets = s.tnu.presets.set (s.tnu.installNext - 1) (some x)
            ∧ t.tnu.installNext = s.tnu.installNext + 1
            ∧ t.tnu.installStored = s.tnu.installStored + 1
            ∧ t.tnu.installCodes = s.tnu.installCodes ++ x.code.toList
            ∧ t.tnu.candidate = none ∧ t.tnu.dwellTimer = none
            ∧ t.tnu.state = .installing ∧ t.tnu.base = some (b + 32) ∧ t.tnu.source = .scan
            ∧ t.tnu.scanTimer = some (now + 80000)
            ∧ onlyTuning { s with now := now, tnu := { s.tnu with presets := t.tnu.presets } } t

/-- A data line is forwarded by the first matching filter entry, and a label said twice is tracked
(derived: 06_broadcast_data_lines.md 6.1, 06_broadcast_data_lines.md 6.2,
06_broadcast_data_lines.md 6.5). -/
def Obligations.DataLinesForwardedAndTracked : Prop :=
  ∀ (p : List Byte) (s : State), s.lku.supply = .mains → s.pgt.claim = none →
    (lineItems p = none → exec (.dataLinePacket p) s = .next (publish s (latch .linkError s)))
      ∧ (∀ line q, lineItems p = some (line, q, .other) →
        let first := s.dlp.filter.find? (fun e => match e with
          | some e => decide (e.first ≤ line) && decide (line ≤ e.last) && e.other
              && decide (e.minimum.rank ≤ q.rank)
          | none => false)
        let copied (display : Bool) : State :=
          if copiesWaiting s.lku.queue < 16 then
            { s with lku := { s.lku with queue := s.lku.queue ++ [.copy display p] } }
          else
            { s with dlp := { s.dlp with
                dropped := if s.dlp.dropped < 65535 then s.dlp.dropped + 1 else 65535 } }
        exec (.dataLinePacket p) s = .next (publish s
          (match first.bind (fun e => e.map FilterEntry.action) with
            | some FilterAction.forwardDisplay => copied true
            | some FilterAction.forwardSystem => copied false
            | _ => s)))
      ∧ (∀ line c v st, lineItems p = some (line, .good, .label) →
        contentOf .label p = some (.label c v st) → s.expected = some c →
        lineAction s.dlp.filter line .good .label = .drop → s.dlp.tracker ≠ .live c v st →
          (s.dlp.proposal = some ⟨c, v, st⟩ →
            ∃ t, exec (.dataLinePacket p) s = .next t
              ∧ sameButQueue t { s with dlp := { s.dlp with
                  tracker := .live c v st, proposal := none
                  lossTimer := some (s.now + 10000000) } })
            ∧ (s.dlp.proposal ≠ some ⟨c, v, st⟩ → s.dlp.tracker = .noLabel →
              ∃ t, exec (.dataLinePacket p) s = .next t
                ∧ sameButQueue t { s with dlp := { s.dlp with proposal := some ⟨c, v, st⟩ } }))
      ∧ ∀ due c v st, s.dlp.lossTimer = some due → s.dlp.tracker = .live c v st →
          ∃ t, exec .lossTimerExpiry s = .next t
            ∧ sameButQueue t
              { s with
                now := max s.now due
                dlp := { s.dlp with
                  tracker := .lost c v st, proposal := none, lossTimer := none } }

/-- A passing second advances the clock by one second, on mains and on backup (derived:
07_clock_and_calendar.md 7.1, 07_clock_and_calendar.md 7.5, 11_mains_failure_and_warm_start.md
11.2). -/
def Obligations.SecondsAdvanceTheClock : Prop :=
  ∀ s : State,
    let ticked : Cku :=
      { s.cku with now := s.cku.now.advance, prescaler := 0, holdOff := s.cku.holdOff - 1 }
    (s.lku.supply ≠ .mains → exec .secondPasses s = .next { s with cku := ticked })
      ∧ (s.lku.supply = .mains → s.timerQuiet →
        ∃ t, exec .secondPasses s = .next t
          ∧ sameButQueue t
            { s with cku :=
              if s.cku.now = ⟨31, 12, 2099, 23, 59, 59⟩ then
                { ticked with lastJump := some ⟨.wrap, s.cku.now, ⟨1, 1, 2000, 0, 0, 0⟩⟩ }
              else ticked })
      ∧ (s.cku.now.valid = true →
          s.cku.now.advance.seconds
            = if s.cku.now.seconds = 3155759999 then 0 else s.cku.now.seconds + 1)
      ∧ (holdCountEnds s = false → exec .holdCountExpiry s = .next s)
      ∧ (startCountEnds s = false → exec .startCountExpiry s = .next s)

/-- A hold count that reaches 0 stops the deck and watches again; a start count that reaches 0 fails
the record (derived: 08_programme_timer.md 8.3, 08_programme_timer.md 8.5, 08_programme_timer.md
8.6, 07_clock_and_calendar.md 7.1). -/
def Obligations.TimerCountsRunOut : Prop :=
  ∀ (n : Nat) (s : State), s.lku.supply = .mains → s.pgt.records.length = 16 → n ∈ slots →
    s.pgt.claim = some n → s.pgt.engaged = true → (s.slot n).state = .starting →
    (∀ j ∈ slots, j ≠ n → (s.slot j).state ≠ .armed ∧ (s.slot j).state ≠ .deferred) →
    s.cku.now ≠ ⟨31, 12, 2099, 23, 59, 59⟩ →
    let later : State := { s with cku := { s.cku with
      now := s.cku.now.advance, prescaler := 0, holdOff := s.cku.holdOff - 1 } }
    let r := s.slot n
    r.recalled = false →
    (r.startCount = none → r.holdCount = some 1 → r.labelSeen = true → r.phase = .hold →
      s.pgt.again = none → s.tc.state = .recordPause → s.tc.lockWait = false →
      s.tc.sensors.dew = false → s.mdu.drum.state ≠ .latchedOff →
      later.hasReached (r.waitDeadline s.lku.params) = false →
        ∃ t, exec .holdCountExpiry s = .next t
          ∧ t.slot n
            = { r with state := .watching, phase := .clock, holdCount := none, startCount := none }
          ∧ t.pgt.claim = some n ∧ t.tc.state = .threadedStop
          ∧ t.tc.goal = some ⟨.stop, .threadedStop⟩ ∧ t.cku = later.cku ∧ t.tnu = s.tnu
          ∧ t.lnu = s.lnu ∧ t.dlp = s.dlp ∧ t.lku.params = s.lku.params)
      ∧ (r.startCount = some 1 → r.repeats = .once → s.tc.goal.map Goal.target = some .stop →
        ∃ t, exec .startCountExpiry s = .next t
          ∧ (t.slot n).state = .ended
          ∧ (t.slot n).lastResult
            = some (if r.unlockNoted then .failedServo else .failedMechanism)
          ∧ (t.slot n).startCount = none ∧ t.pgt.claim = none ∧ t.tnu = { s.tnu with owner := .user }
          ∧ t.tc.openRec = false ∧ t.tc.state = s.tc.state ∧ t.cku = later.cku ∧ t.lnu = s.lnu
          ∧ t.dlp = s.dlp ∧ t.lku.params = s.lku.params)

/-- A label event, or the loss of the label, starts, holds, pauses, resumes or ends the record that
holds the claim (derived: 08_programme_timer.md 8.3, 08_programme_timer.md 8.4,
08_programme_timer.md 8.6, 06_broadcast_data_lines.md 6.5, 01_tape_transport.md 1.4). -/
def Obligations.LabelEventsActOnTheRecord : Prop :=
  ∀ (p : List Byte) (n line c : Nat) (v : Option Label) (st : LabelStatus) (w : Speed) (due : Tick)
      (s : State), s.lku.supply = .mains → s.pgt.records.length = 16 → n ∈ slots →
    s.pgt.claim = some n → s.pgt.engaged = true → s.pgt.again = none →
    (∀ j ∈ slots, (s.slot j).state ≠ .deferred) → s.tc.lockWait = false → s.tc.startUp = false →
    s.tc.sensors.dew = false → s.tc.sensors.eot = false →
    s.tau.record.map Cassette.tab ≠ some .no → (∀ x, (s.mdu.motor x).state ≠ .latchedOff) →
    let r := s.slot n
    let stands (state : TState) (cam : Level) : Prop := s.tc.state = state ∧ s.tc.sensors.cam = .code cam
    let planned : Prop := r.chosen = some w ∧ plannedSpeed s.field w = w
    let after (x : Instr) (heard : Dlp) (now : Tick) (q : State → Prop) : Prop :=
      ∃ t, exec x s = .next t ∧ q t ∧ t.dlp = heard ∧ t.now = now ∧ t.pgt.engaged = true
        ∧ (∀ j ∈ slots, j ≠ n → t.slot j = s.slot j) ∧ t.cku = s.cku ∧ t.lnu = s.lnu
        ∧ t.lku.params = s.lku.params
    let holds (x : TimerRecord) (t : State) : Prop :=
      t.slot n = x ∧ t.pgt.claim = some n ∧ t.tnu = s.tnu
    let only (x : TimerRecord) (t : State) : Prop :=
      holds x t ∧ t.tc = s.tc ∧ t.mdu = s.mdu ∧ t.svu = s.svu ∧ t.tau = s.tau
    let toward (state : TState) (target : Target) (dest : TState) (t : State) : Prop :=
      t.tc.state = state ∧ t.tc.goal = some ⟨target, dest⟩
        ∧ (s.tc.state ≠ state → state.transient = true → t.tc.moveTimer = some (t.now + 4000000))
    let going (speed : Speed) (t : State) : Prop :=
      toward .engaging .record .record t ∧ t.tc.recSpeed = speed
        ∧ t.tau.details = some ⟨some n, some r.source, r.label⟩
    let ended (t : State) : Prop :=
      let day := if r.repeats = .once then none else nextServing s.lku.params s.clock 1 r
      (t.slot n).state = (if day.isSome then .armed else .ended)
        ∧ (t.slot n).start = r.start + day.getD 0 * 86400
        ∧ (t.slot n).lastResult = some .complete
        ∧ (t.slot n).actualStop = (if r.actualStart.isSome then some s.clock else r.actualStop)
        ∧ t.pgt.claim = none ∧ t.tnu = { s.tnu with owner := .user } ∧ t.tc.openRec = false
    let ends (x : Instr) (heard : Dlp) (now : Tick) : Prop := s.tc.goal.map Goal.target ≠ some .stop →
      (r.state = .recording → stands .record .c3 → after x heard now (fun t =>
          ended t ∧ toward .disengaging .stop .threadedStop t ∧ t.tc.gate = false))
        ∧ (r.state = .paused → stands .recordPause .c2 → after x heard now (fun t =>
          ended t ∧ toward .threadedStop .stop .threadedStop t))
    let resumes (x : Instr) (heard : Dlp) (now : Tick) (y : TimerRecord) : Prop :=
      planned → stands .recordPause .c2 → after x heard now (fun t =>
        holds { y with resuming := true } t ∧ toward .engaging .record .record t
          ∧ t.tc.openRec = s.tc.openRec)
    (lineItems p = some (line, .good, .label) → contentOf .label p = some (.label c v st) →
        s.expected = some c → lineAction s.dlp.filter line .good .label = .drop →
        s.dlp.tracker ≠ .live c v st → s.dlp.proposal = some ⟨c, v, st⟩ →
        let ours : Prop := v.isSome = true ∧ v = r.label
        let x : Instr := .dataLinePacket p
        let heard : Dlp := { s.dlp with
          tracker := .live c v st, proposal := none, lossTimer := some (s.now + 10000000) }
        let on (q : State → Prop) : Prop := after x heard s.now q
        (r.state = .watching →
            (¬ours → on (only { r with labelSeen := true }))
              ∧ (ours → s.tc.openRec = false →
                let speed := (speedPlan s n r).1
                let begun (phase : Phase) (start hold : Option Nat) (t : State) : Prop :=
                  (t.slot n).state = .starting ∧ (t.slot n).phase = phase
                    ∧ (t.slot n).startCount = start ∧ (t.slot n).holdCount = hold
                    ∧ (t.slot n).chosen = some speed ∧ (t.slot n).labelSeen = true
                    ∧ t.pgt.claim = some n ∧ t.tnu = s.tnu ∧ t.tc.recSpeed = speed
                (stands .threadedStop .c2 →
                    (st = .running → on (fun t => begun .go (some 60) none t ∧ going speed t))
                      ∧ (st ≠ .running → on (fun t => begun .hold none (some 600) t
                        ∧ toward .recordPause .recordPause .recordPause t)))
                  ∧ (stands .unthreadedStop .c1 → on (fun t =>
                    (if st = .running then begun .go none none t else begun .hold none (some 600) t)
                      ∧ toward .threading .recordPause .recordPause t))))
          ∧ (r.state = .starting →
            let watches : TimerRecord :=
              { r with state := .watching, phase := .clock, holdCount := none, startCount := none }
            (r.phase = .clock ∨ (ours ∧ (r.phase = .go ↔ st = .running)) → on (only r))
              ∧ (r.phase = .hold → ours → st = .running →
                (s.tc.state ≠ .recordPause ∨ r.startCount.isSome = true →
                    on (only { r with phase := .go, holdCount := none }))
                  ∧ (r.startCount = none → planned → s.tc.openRec = false → stands .recordPause .c2 →
                    on (fun t => going w t
                      ∧ holds { r with
                          phase := .go, holdCount := none, startCount := some 60
                          unlockNoted := false } t)))
              ∧ (r.phase = .go → ours → st ≠ .running → planned → s.tc.openRec = false →
                s.tc.state = .engaging →
                on (fun t => toward .engaging .recordPause .recordPause t ∧ t.tc.recSpeed = w
                  ∧ holds { r with phase := .hold, startCount := none, holdCount := some 600 } t))
              ∧ (r.phase ≠ .clock → ¬ours →
                (stands .recordPause .c2 → on (fun t =>
                    toward .threadedStop .stop .threadedStop t ∧ holds watches t))
                  ∧ (s.tc.state = .engaging → on (fun t =>
                    toward .engaging .stop .threadedStop t ∧ holds watches t))))
          ∧ (r.state = .recording ∨ r.state = .paused →
            (r.stopMode ≠ .label
                ∨ (ours ∧ ((r.state = .recording ∧ st ≠ .brk) ∨ (r.state = .paused ∧ st ≠ .running))) →
              on (only r))
              ∧ (r.stopMode = .label → ours → r.state = .recording → st = .brk → planned →
                stands .record .c3 → on (fun t =>
                  holds { r with state := .paused, retry := .none, resuming := false } t
                    ∧ toward .disengaging .recordPause .recordPause t ∧ t.tc.gate = false
                    ∧ t.tc.openRec = s.tc.openRec))
              ∧ (r.stopMode = .label → ours → r.state = .paused → st = .running →
                resumes x heard s.now r)
              ∧ (r.stopMode = .label → ¬ours → ends x heard s.now)))
      ∧ (s.dlp.lossTimer = some due → s.dlp.tracker = .live c v st →
        let now := max s.now due
        let heard : Dlp := { s.dlp with tracker := .lost c v st, proposal := none, lossTimer := none }
        let shifted : TimerRecord := { r with stopMode := .shifted }
        (r.state = .watching ∨ r.state = .starting ∨ r.stopMode ≠ .label →
            after .lossTimerExpiry heard now (only r))
          ∧ (r.stopMode = .label →
            (r.shiftedStop ≤ (s.clock : Int) → ends .lossTimerExpiry heard now)
              ∧ (¬r.shiftedStop ≤ (s.clock : Int) →
                (r.state = .recording → after .lossTimerExpiry heard now (only shifted))
                  ∧ (r.state = .paused → resumes .lossTimerExpiry heard now shifted))))

/-- A new settled level of an input line acts once, at its edge (the speed kept back: the model's
choice, log 68) (derived: 09_general_lines_and_indicators.md 9.3, 01_tape_transport.md 1.4,
01_tape_transport.md 1.6, 12_operating_sequences.md 12.3). -/
def Obligations.LineInputsActAtTheirEdges : Prop :=
  ∀ (i : Fin 8) (v : PinLevel) (s : State), s.lku.supply = .mains →
    let a := s.line i.val
    let s1 : State := { s with pins := { s.pins with lines := s.pins.lines.set i.val v } }
    let s2 : State :=
      noted .line s1 { s1 with lnu := { s1.lnu with settled := s1.lnu.settled.set i.val v } }
    let result := exec (.lineInputSettled i v) s
    (a.output = true ∨ s.settledLevel i.val = v → result = .next (publish s1 s1))
      ∧ (a.output = false → s.settledLevel i.val ≠ v →
        (a.event = .null → result = .next (publish s1 s2))
          ∧ (a.event = .counterZero ∨ a.event = .extStopRequest → v ≠ a.active →
            result = .next (publish s1 s2))
          ∧ (a.event = .counterZero → v = a.active →
            result = .next (publish s1
              { s2 with tau := { s2.tau with
                  record := s2.tau.record.map
                    (fun r => { r with counter := 0, counterValid := true }) } }))
          ∧ ∀ target,
              (a.event = .extRecordRequest ∧ v = a.active ∧ target = .record)
                ∨ (a.event = .extRecordRequest ∧ v ≠ a.active ∧ target = .stop)
                ∨ (a.event = .extStopRequest ∧ v = a.active ∧ target = .stop) →
              let test := checkRequest ⟨some target, some s.tc.userSpeed, .line⟩ s2
              (s.pgt.engaged = true → test ≠ none)
                ∧ (test ≠ none → result = .next (publish s1 (latch .extRequestRefused s2)))
                ∧ (test = none → s.plain → target = .record → s.tc.state = .recordPause →
                    s.tc.sensors.cam = .code .c2 →
                    ∃ t, result = .next t ∧ t.tc.state = .engaging
                      ∧ t.tc.goal = some ⟨.record, .record⟩
                      ∧ t.tc.recSpeed = (if s.tc.openRec then s.tc.recSpeed else s.tc.userSpeed)
                      ∧ t.tc.heldSpeed = (if s.tc.openRec then some s.tc.userSpeed else s.tc.heldSpeed)
                      ∧ t.tc.openRec = s.tc.openRec ∧ t.tc.moveTimer = some (s.now + 4000000)
                      ∧ onlyDeck s2 t)
                ∧ (test = none → s.plain → target = .stop → s.tc.state = .threadedStop →
                    ∃ t, result = .next t ∧ t.tc.state = .threadedStop
                      ∧ t.tc.goal = some ⟨.stop, .threadedStop⟩
                      ∧ t.tc.idleTimer = some (s.now + 300000000) ∧ onlyDeck s2 t))

/-- The receiver assembles packets byte by byte; the transmitter sends one packet at a time (derived:
10_links_requests_and_reports.md 10.1, 10_links_requests_and_reports.md 10.4). -/
def Obligations.ReceiverAndTransmitterWork : Prop :=
  ∀ (b : Byte) (pins : Pins) (due : Tick) (s0 : State), s0.lku.supply = .mains →
    let s : State := { s0 with pins := pins }
    let rx := s.lku.rx
    let with' (r : Receiver) : State := { s with lku := { s.lku with rx := r } }
    let gap := some (s.now + 1000)
    let discarded : State := with' ⟨.discard, 0, 0, [], gap⟩
    let idle : State := with' ⟨.idle, 0, 0, [], none⟩
    let byteTaken := exec (.inboundByte ⟨b, pins⟩) s0
    (rx.phase = .idle →
        (b = 1 ∨ b = 2 → byteTaken = .next (publish (with' ⟨.length, b, 0, [], gap⟩)
            (with' ⟨.length, b, 0, [], gap⟩)))
          ∧ (b ≠ 1 → b ≠ 2 → byteTaken = .next (publish discarded (latch .linkError discarded))
            ∧ exec (.packetDiscard .badClass) s = .next (publish s (latch .linkError discarded))))
      ∧ (rx.phase = .length →
        (b.toNat ≤ 40 →
            let r : Receiver :=
              { rx with phase := if b = 0 then .check else .payload, len := b.toNat, gapTimer := gap }
            byteTaken = .next (publish (with' r) (with' r)))
          ∧ (40 < b.toNat → byteTaken = .next (publish discarded (latch .linkError discarded))))
      ∧ (rx.phase = .payload →
        let r : Receiver :=
          { rx with
            phase := if rx.payload.length + 1 < rx.len then .payload else .check
            payload := rx.payload ++ [b], gapTimer := gap }
        byteTaken = .next (publish (with' r) (with' r)))
      ∧ (rx.phase = .check →
        let sum := rx.cls + BitVec.ofNat 8 rx.len + byteSum rx.payload + b
        (sum ≠ 0 → byteTaken = .next (publish idle (latch .linkError idle)))
          ∧ (sum = 0 → rx.cls = 1 → byteTaken = exec (.dataLinePacket rx.payload) idle)
          ∧ (sum = 0 → rx.cls = 2 →
            (rx.payload.length < 2 → byteTaken = .next (publish idle (latch .linkError idle)))
              ∧ ∀ name tag params, rx.payload = name :: tag :: params →
                  byteTaken = exec (.unknownRequest name tag params) idle))
      ∧ (rx.phase = .discard →
          byteTaken = .next (publish (with' { rx with gapTimer := gap })
            (with' { rx with gapTimer := gap })))
      ∧ exec (.packetDiscard .noStopBit) s = .next (publish s (latch .linkError discarded))
      ∧ (rx.gapTimer = some due →
        let t : State := { idle with now := max s.now due }
        exec .gapTimerExpiry s
          = .next (publish s (if rx.phase = .discard then t else latch .linkError t)))
      ∧ (∀ p rest, s.lku.queue = p :: rest → s.lku.wanted = [] →
          exec .transmissionEnd s = .next
            (if s.lku.hold then { s with lku := { s.lku with tx := none } }
              else { s with lku := { s.lku with tx := some p, queue := rest } })
          ∧ exec (.holdInputChange true) s
            = .next { s with lku := { s.lku with hold := true } }
          ∧ exec (.holdInputChange false) s = .next
            (match s.lku.tx with
              | some _ => { s with lku := { s.lku with hold := false } }
              | none => { s with lku := { s.lku with hold := false, tx := some p, queue := rest } }))

/-- The power-fail stop stops the deck and loses what the link held (derived:
11_mains_failure_and_warm_start.md 11.1, 11_mains_failure_and_warm_start.md 11.2,
09_general_lines_and_indicators.md 9.1). -/
def Obligations.PowerFailStopsEverything : Prop :=
  ∀ s : State, s.lku.supply = .mains →
    ∃ t, exec .mainsFailAssert s = .next t
      ∧ t.lku.supply = .failed ∧ t.lku.queue = [] ∧ t.lku.tx = none
      ∧ t.lku.rx = ⟨.idle, 0, 0, [], none⟩ ∧ t.lku.latched = [] ∧ t.lku.live = []
      ∧ t.dlp.dropped = 0
      ∧ t.tc.state = .powerDown ∧ t.tc.retryCount = 0 ∧ t.tc.gate = false ∧ t.tc.openRec = false
      ∧ motorsRun t = false ∧ t.svu.drumTarget = .off ∧ t.svu.capTarget = .off
      ∧ t.svu.drum.lock = .unlocked ∧ t.svu.cap.lock = .unlocked
      ∧ t.tnu.word = none ∧ t.tnu.bandOut = none ∧ t.pgt.claim = none
      ∧ t.cku = s.cku ∧ t.pgt.engaged = s.pgt.engaged ∧ t.tnu.presets = s.tnu.presets
      ∧ t.tnu.limits = s.tnu.limits ∧ t.tau.table = s.tau.table ∧ t.dlp.filter = s.dlp.filter
      ∧ t.lnu = s.lnu ∧ t.lku.params = s.lku.params ∧ t.now = s.now ∧ t.pending = s.pending
      ∧ ∀ i, lineDriven i t = none
          ∧ ((s.line i).output = true → (s.line i).openDrain = true → lineLevel i t = .high)

/-- While mains is absent only the mains, the crystal and the kept inputs act (derived:
11_mains_failure_and_warm_start.md 11.1, 11_mains_failure_and_warm_start.md 11.3). -/
def Obligations.OutageHoldsTheBackupDomain : Prop :=
  ∀ s : State,
    (∀ c, s.lku.supply ≠ .mains → needsMains c = true → exec c s = .next s)
      ∧ (s.lku.supply = .failed →
          exec .mainsFailDeassert s = .next { s with lku := { s.lku with
              supply := .returning, returnTimer := some (s.now + 1000000) } }
            ∧ exec .mainsFailAssert s = .next s)
      ∧ (s.lku.supply = .returning →
          exec .mainsFailAssert s = .next { s with lku := { s.lku with
              supply := .failed, returnTimer := none } })
      ∧ (s.lku.supply ≠ .failed → exec .mainsFailDeassert s = .next s)

/-- A cold start gives every block its start values; a warm start keeps the backup domain and catches
up (derived: 11_mains_failure_and_warm_start.md 11.3, 11_mains_failure_and_warm_start.md 11.4,
08_programme_timer.md 8.10, 05_tuner_and_presets.md 5.9). -/
def Obligations.StartsGiveStartValues : Prop :=
  ∀ (pins : Pins) (due : Tick) (s : State), s.lku.supply = .returning →
    s.lku.returnTimer = some due →
    let raised (k : Condition) : List Condition :=
      let m := if pins.supply.toNat < 90 then latchIn [k] .supplyLow else [k]
      if pins.dew then latchIn m .dew else m
    let now := max s.now due
    let result := exec (.returnTimerExpiry pins) s
    let fresh : Cassette := { Cassette.fresh with tab := if pins.tab then .yes else .no }
    let deck (t : State) : Prop :=
      (pins.cassette = false → t.tc.state = .empty ∧ t.tau.record = none)
        ∧ (pins.cassette = true → pins.cam = .code .c1 →
            t.tc.state = .unthreadedStop ∧ t.tau.record = some fresh)
        ∧ t.tc.goal = some ⟨.stop, .unthreadedStop⟩ ∧ t.tc.retryCount = 0
        ∧ t.tc.sensors = sensorsOf pins ∧ motorsRun t = false
        ∧ t.svu.drumTarget = .off ∧ t.svu.capTarget = .off ∧ t.dlp.tracker = .noLabel
        ∧ t.lnu.settled = pins.lines ∧ t.lku.supply = .mains
        ∧ t.lku.returnTimer = none ∧ t.lku.rx = ⟨.idle, 0, 0, [], none⟩ ∧ t.now = now
        ∧ t.pending = s.pending
    let kept (t : State) : Prop :=
      deck t ∧ t.lku.cause = .warm ∧ t.lku.latched = raised .powerFail ∧ t.lku.params = s.lku.params
        ∧ t.cku = { s.cku with holdOff := 0, lastJump := none }
        ∧ t.pgt.engaged = s.pgt.engaged ∧ t.tnu.presets = s.tnu.presets
        ∧ t.tnu.limits = s.tnu.limits ∧ t.tau.table = s.tau.table ∧ t.dlp.filter = s.dlp.filter
        ∧ t.lnu.lines = s.lnu.lines
    (pins.backupGood = false →
        ∃ t, result = .next t ∧ deck t
          ∧ t.lku.cause = .cold ∧ t.lku.latched = raised .clockLost ∧ t.lku.params = Params.default
          ∧ t.cku = ⟨⟨1, 1, 2000, 0, 0, 0⟩, 0, .unset, 0, none⟩
          ∧ t.pgt = ⟨List.replicate 16 TimerRecord.blank, false, none, none, none⟩
          ∧ t.tnu.state = .idle
          ∧ t.tnu.presets = List.replicate 60 none ∧ t.tnu.limits = BandTable.default
          ∧ t.tau.table = List.replicate 8 none ∧ t.dlp.filter = List.replicate 8 none
          ∧ t.lnu.lines = List.replicate 8 ⟨false, .null, false, .high⟩)
      ∧ (pins.backupGood = true →
        (∀ n ∈ slots, (s.slot n).state ≠ .armed ∧ (s.slot n).state ≠ .deferred) →
        ∃ t, result = .next t ∧ kept t ∧ t.pgt.records = s.pgt.records.map TimerRecord.cleared
          ∧ t.pgt.claim = none
          ∧ (s.tnu.lastTuned.bind s.tnu.preset = none → t.tnu.state = .idle)
          ∧ ∀ p x, s.tnu.lastTuned = some p → s.tnu.preset p = some x →
              t.tnu.state = .settling ∧ t.tnu.source = .preset p ∧ t.tnu.base = some x.n
                ∧ t.tnu.fine = x.fine ∧ t.tnu.settleTimer = some (now + 80000))
      ∧ ∀ n, pins.backupGood = true → n ∈ slots → s.pgt.records.length = 16 →
          (s.slot n).state = .armed → (s.slot n).repeats = .once →
          (∀ j ∈ slots, j ≠ n → (s.slot j).state ≠ .armed ∧ (s.slot j).state ≠ .deferred) →
          let r := s.slot n
          let reached (moment : Int) : Prop := moment ≤ (s.clock : Int)
          let triggered : Prop := reached (r.trigger s.lku.params)
          let late : Prop := reached (r.deadline s.lku.params)
          let others (t : State) : Prop := ∀ j ∈ slots, j ≠ n → t.slot j = (s.slot j).cleared
          let ends (res : ResultCode) : Prop :=
            ∃ t, result = .next t ∧ kept t ∧ others t ∧ t.pgt.claim = none
              ∧ (t.slot n).state = .ended ∧ (t.slot n).lastResult = some res
          (¬triggered → ∃ t, result = .next t ∧ kept t ∧ others t ∧ t.pgt.claim = none
              ∧ t.slot n = r.cleared)
            ∧ (triggered → s.pgt.engaged = false → ends .missedNotEngaged)
            ∧ (triggered → s.pgt.engaged = true → late → ends .missedPower)
            ∧ (triggered → s.pgt.engaged = true → ¬late →
              (∀ p, r.source = .preset p → s.tnu.preset p = none → ends .noPreset)
                ∧ (pins.cassette = false →
                  (∀ p, r.source = .preset p → s.tnu.preset p ≠ none) → ends .missedNoCassette)
                ∧ ∀ p, pins.cassette = true → pins.cam = .code .c1 → pins.tab = true →
                  pins.eot = false → r.labelControl = true → r.source = .preset p →
                  s.tnu.preset p ≠ none →
                  ∃ t, result = .next t ∧ kept t ∧ others t ∧ t.pgt.claim = some n
                    ∧ (t.slot n).state = .watching ∧ (t.slot n).watchOpening = s.clock
                    ∧ (t.slot n).labelSeen = false ∧ t.tnu.owner = .timer
                    ∧ t.tnu.external = false ∧ t.tnu.isOn p = true
                    ∧ t.tnu.lastTuned = some p)

/-- Supply revolutions form K samples, which are gathered, tested for spread, classified and watched
(derived: 03_tape_accounting.md 3.3, 03_tape_accounting.md 3.5, 03_tape_accounting.md 3.6). -/
def Obligations.SamplesClassifyTheCassette : Prop :=
  (∀ (f : FieldSystem) (k : Nat) (table : List (Option CassEntry)),
      let off (e : CassEntry) : Nat := ((k : Int) - e.kNom).natAbs
      let fits (i : Nat) (e : CassEntry) : Prop :=
        table.getD i none = some e ∧ e.field = f ∧ off e ≤ e.tol
      (∀ j, chooseEntry f k table = some j →
          ∃ e, fits j e ∧ ∀ i x, fits i x → off e < off x ∨ (off e = off x ∧ j ≤ i))
        ∧ (chooseEntry f k table = none → ∀ i x, ¬fits i x))
    ∧ ∀ (dt : Tick) (s : State) (r : Cassette), s.lku.supply = .mains → s.pgt.claim = none →
      s.tc.state ∈ [.play, .record, .searchFwd] → s.tau.record = some r →
      s.tau.supplyRev.measuring = true → s.tau.supplyRev.pulses ≠ 0 →
      let now := s.now + dt
      let w := min ((s.tau.supplyRev.fg + 1) / 3) 4095
      let result := exec (.reelPulse dt .supply) s
      let leaves (rec : Cassette) (outliers : Nat) : Prop :=
        ∃ t, result = .next t ∧ t.tau.record = some rec ∧ t.tau.outliers = outliers
          ∧ t.tau.takeUpFresh = false ∧ t.tau.supplyRev = ⟨true, 0, 0, now⟩ ∧ t.tc = s.tc
          ∧ t.now = now ∧ onlyDeck s t
      (s.tau.takeUpFresh = false → (s.tau.classEntry = none ∨ r.quality ≠ .none) →
          leaves { r with ws := some w } s.tau.outliers)
        ∧ ∀ w2, s.tau.takeUpFresh = true → r.wt = some w2 →
          let x := w ^ 2 + w2 ^ 2
          let l := r.samples.drop (r.samples.length - 3) ++ [x]
          let mean := l.sum / 4
          let close : Prop := ∀ a ∈ l, ∀ b ∈ l, a ≤ b + mean / 50
          ((r.cls = .unknown ∨ r.cls = .unclassified) →
            (l.length < 4 → leaves { r with ws := some w, samples := l } s.tau.outliers)
              ∧ (l.length = 4 → ¬close →
                leaves { r with ws := some w, samples := l.drop 1 } s.tau.outliers)
              ∧ (l.length = 4 → close → chooseEntry s.field mean s.tau.table = none →
                leaves { r with ws := some w, samples := l, k := some mean, cls := .unclassified }
                  s.tau.outliers)
              ∧ ∀ j e, l.length = 4 → close → chooseEntry s.field mean s.tau.table = some j →
                s.tau.entry j = some e →
                leaves { r with
                  ws := some w, samples := [], k := some mean, cls := .index j
                  position := if r.quality = .none then some (e.total - e.rem (w ^ 2))
                    else r.position.map (fun p => min p e.total)
                  quality := if r.quality = .none then .estimated else r.quality } 0)
            ∧ ∀ i e, r.cls = .index i → s.tau.entry i = some e → r.quality ≠ .none →
              let far : Prop := 2 * e.tol < ((x : Int) - e.kNom).natAbs
              (¬far → leaves { r with ws := some w } 0)
                ∧ (far → s.tau.outliers + 1 < 4 →
                  leaves { r with ws := some w } (s.tau.outliers + 1))
                ∧ (far → 4 ≤ s.tau.outliers + 1 →
                  leaves { r with
                    ws := some w, samples := [], k := none, cls := .unknown
                    position := if r.quality = .estimated then none else r.position
                    quality := if r.quality = .estimated then .none else r.quality } 0)

/-- A wind estimate sets the position, and the zone and the end warning follow it (derived:
03_tape_accounting.md 3.5, 03_tape_accounting.md 3.6, 03_tape_accounting.md 3.7,
03_tape_accounting.md 3.8, 01_tape_transport.md 1.9). -/
def Obligations.WindEstimateMovesThePosition : Prop :=
  ∀ (dt : Tick) (s : State) (r : Cassette), s.lku.supply = .mains →
    s.tc.state = .windFwd ∨ s.tc.state = .windRev → s.tau.record = some r →
    let m := s.tau.supplyRev
    let now := s.now + dt
    let result := exec (.reelPulse dt .supply) s
    let ts := min (now - m.began) 16777215
    (∀ i e k tt, m.measuring = true → m.pulses ≠ 0 → r.cls = .index i → s.tau.entry i = some e →
        r.k = some k → s.tau.tt = some tt → 0 < ts ^ 2 + tt ^ 2 →
        let p := e.total - e.rem (k * ts ^ 2 / (ts ^ 2 + tt ^ 2))
        let zone : Zone := if p ≤ 1800 ∨ e.total ≤ p + 1800 then .inside else .outside
        let left := (e.total - p) * s.tau.warnSpeed.factor / frameRate s.field
        let near : Bool :=
          decide (left < if s.tau.endNear then s.lku.params.endWarn + 10 else s.lku.params.endWarn)
        ∃ t, result = .next t
          ∧ t.tau.record = some { r with
              position := some p, quality := .estimated
              counter := match r.position with
                | some old => max (-1080000) (min 1080000 (r.counter + ((p : Int) - old)))
                | none => r.counter
              counterValid := r.counterValid && r.position.isSome }
          ∧ t.tau.zone = zone ∧ t.tau.endNear = near ∧ t.tau.ts = some ts
          ∧ t.lku.latched
            = (if near = true ∧ s.tau.endNear = false then latchIn s.lku.latched .tapeEndNear
                else s.lku.latched)
          ∧ (s.tau.zone ≠ zone → t.mdu.reel.staged
              = ⟨if s.tc.state = .windFwd then .fwd else .rev,
                  if zone = .inside then s.lku.params.approachDuty else s.lku.params.windDuty⟩)
          ∧ (s.tau.zone = zone → t.mdu = s.mdu)
          ∧ t.tc.state = s.tc.state ∧ t.now = now ∧ onlyDeck s t)
      ∧ (m.measuring = true → m.pulses ≠ 0 → s.tau.classEntry.isSome = true → s.tau.tt = none →
        ∃ t, result = .next t ∧ t.tau.record = some r ∧ t.tau.ts = some ts ∧ t.mdu = s.mdu
          ∧ onlyDeck s t)
      ∧ (s.tau.classEntry = none →
        ∃ t, result = .next t
          ∧ t.tau.record = some { r with
              counterValid := false, position := none
              quality := if r.position.isSome then .none else r.quality }
          ∧ onlyDeck s t)

/-- The locks reached in the lock wait open RECORD, the gate and the recording with its directory
entry (derived: 01_tape_transport.md 1.6, 01_tape_transport.md 1.8, 02_motors_and_servos.md 2.6,
03_tape_accounting.md 3.7, 04_cue_marks_and_the_cassette_directory.md 4.1,
04_cue_marks_and_the_cassette_directory.md 4.4). -/
def Obligations.RecordingOpensWithItsEntry : Prop :=
  (∀ (dt before : Tick) (s : State) (r : Cassette) (k : Nat), s.lku.supply = .mains →
      s.pgt.claim = none → s.tc.state = .engaging → s.tc.lockWait = true →
      s.tc.sensors.cam = .code .c3 → s.tc.sensors.eot = false → s.tc.openRec = false →
      s.tc.gate = false → s.svu.drum.lock = .phaseLock → s.svu.cap.lock = .unlocked →
      s.svu.cap.inBand = 15 → s.svu.cap.lastPulse = some before → s.svu.capTarget = .run false k 1 →
      s.mdu.capReverse = false → s.tau.record = some r → s.tau.inProgress = none →
      s.tau.fgStep ≠ 11 → s.tau.fgStep ≠ -13 →
      let now := s.now + dt
      let period := roundDiv (1000000 * k) (frameRate s.lku.params.fieldSystem * 12)
      ((min (now - before) 16777215 : Nat) - (period : Int)).natAbs ≤ period / 64 →
      let source : Option Source :=
        if s.tnu.external then some .external
        else match s.tnu.source with
          | .preset q => if (s.tnu.preset q).isSome then some (.preset q) else none
          | _ => none
      let entry (p : Nat) : DirEntry :=
        if s.pgt.engaged then
          ⟨p, none, some s.tc.recSpeed, .timer, s.tau.details.bind Details.source,
            s.tau.details.bind Details.label, s.tau.details.bind Details.slot⟩
        else ⟨p, none, some s.tc.recSpeed, .manual, source, none, none⟩
      let kept (p : Nat) : List DirEntry :=
        (s.tau.directory.filter (fun e => decide (60 < ((e.start : Int) - p).natAbs))).map
          (fun e => match e.stop with
            | some stop => if e.start ≤ p ∧ p < stop then { e with stop := some p } else e
            | none => e)
      ∃ t, exec (.capstanFgPulse dt) s = .next t
        ∧ t.tc.state = .record ∧ t.tc.openRec = true ∧ t.tc.lockWait = false
        ∧ t.tc.lockTimer = none ∧ t.tc.gate = decide (r.tab = .yes)
        ∧ t.svu.cap.lock = .speedLock ∧ t.now = now
        ∧ t.tau.record = some { r with speed := some s.tc.recSpeed }
        ∧ t.tau.warnSpeed = s.tc.recSpeed
        ∧ t.tau.markCount = (if s.lku.params.cueOnRecord then 48 else s.tau.markCount)
        ∧ t.tau.details = (if s.pgt.engaged then none else s.tau.details)
        ∧ (r.position = none → t.tau.directory = s.tau.directory ∧ t.tau.inProgress = none)
        ∧ (∀ p, r.position = some p → (kept p).length < 16 →
            t.tau.inProgress = some p ∧ t.tau.directory.length = (kept p).length + 1
              ∧ ∀ x, x ∈ t.tau.directory ↔ x ∈ kept p ∨ x = entry p)
        ∧ (∀ p, r.position = some p → (kept p).length = 16 → (∀ e ∈ kept p, e.origin ≠ .found) →
            t.tau.inProgress = none ∧ t.tau.directory = kept p ∧ .directoryFull ∈ t.lku.latched)
        ∧ onlyDeck s t)
    ∧ ∀ (due : Tick) (s : State) (q p : Nat), s.lku.supply = .mains → s.plain →
      s.tc.state = .recordPause → s.tc.pauseTimer = some due → s.tc.openRec = true →
      s.tau.inProgress = some q → s.tau.position = some p →
      ∃ t, exec .pauseTimeout s = .next t
        ∧ t.tc.state = .threadedStop ∧ t.tc.openRec = false ∧ t.tau.inProgress = none
        ∧ t.tau.directory
          = s.tau.directory.map (fun e => if e.start = q then { e with stop := some p } else e)
        ∧ t.tau.warnSpeed = .sp ∧ onlyDeck s t
end

