-- ==== Sys2Proof/Laws/State.lean ====
section
/-!
SUPPORT. What the state keeps while hand-overs are carried out: `State.kept` gathers what no task of the
agenda touches, and each block has one lemma for an update of another block.
-/
namespace Sys2Proof.Machine

/-- What no hand-over between the blocks touches: the lines, the clock, the inputs, the waiting
commands, the links, the parameters, the supply and the tables of the backup domain that only requests
write. -/
structure KeptPart where
  lnu : Lnu
  cku : Cku
  pins : Pins
  pending : List Instr
  rx : Receiver
  queue : List Packet
  tx : Option Packet
  hold : Bool
  cause : StartCause
  params : Params
  supply : SupplyState
  returnTimer : Option Tick
  table : List (Option CassEntry)
  filter : List (Option FilterEntry)
  dropped : Nat
  limits : BandTable
  deriving DecidableEq, Repr

/-- The part of the state that no hand-over touches. -/
def State.kept (s : State) : KeptPart where
  lnu := s.lnu
  cku := s.cku
  pins := s.pins
  pending := s.pending
  rx := s.lku.rx
  queue := s.lku.queue
  tx := s.lku.tx
  hold := s.lku.hold
  cause := s.lku.cause
  params := s.lku.params
  supply := s.lku.supply
  returnTimer := s.lku.returnTimer
  table := s.tau.table
  filter := s.dlp.filter
  dropped := s.dlp.dropped
  limits := s.tnu.limits

/-- A function that keeps a reading of the state keeps it through a list. -/
theorem foldl_keeps {α β : Type} (read : State → β) (f : State → α → State)
    (h : ∀ s a, read (f s a) = read s) : ∀ (l : List α) (s : State), read (l.foldl f s) = read s
  | [], _ => rfl
  | a :: l, s => (foldl_keeps read f h l (f s a)).trans (h s a)

/-! ### One block replaced -/

@[simp] theorem kept_with_tc (s : State) (x : Tc) : ({ s with tc := x } : State).kept = s.kept := rfl

@[simp] theorem kept_with_mdu (s : State) (x : Mdu) : ({ s with mdu := x } : State).kept = s.kept := rfl

@[simp] theorem kept_with_svu (s : State) (x : Svu) : ({ s with svu := x } : State).kept = s.kept := rfl

@[simp] theorem kept_with_pgt (s : State) (x : Pgt) : ({ s with pgt := x } : State).kept = s.kept := rfl

@[simp] theorem kept_with_now (s : State) (x : Tick) : ({ s with now := x } : State).kept = s.kept := rfl

@[simp] theorem kept_with_tau (s : State) (x : Tau) (h : x.table = s.tau.table) :
    ({ s with tau := x } : State).kept = s.kept := by
  simp [State.kept, h]

@[simp] theorem kept_with_tnu (s : State) (x : Tnu) (h : x.limits = s.tnu.limits) :
    ({ s with tnu := x } : State).kept = s.kept := by
  simp [State.kept, h]

@[simp] theorem kept_with_dlp (s : State) (x : Dlp) (h : x.filter = s.dlp.filter)
    (h' : x.dropped = s.dlp.dropped) : ({ s with dlp := x } : State).kept = s.kept := by
  simp [State.kept, h, h']

/-! ### What each field of the kept part reads -/

theorem kept_tau_table {a b : State} (h : a.kept = b.kept) : a.tau.table = b.tau.table :=
  congrArg KeptPart.table h

theorem kept_tnu_limits {a b : State} (h : a.kept = b.kept) : a.tnu.limits = b.tnu.limits :=
  congrArg KeptPart.limits h

theorem kept_lku_params {a b : State} (h : a.kept = b.kept) : a.lku.params = b.lku.params :=
  congrArg KeptPart.params h

theorem kept_lku_queue {a b : State} (h : a.kept = b.kept) : a.lku.queue = b.lku.queue :=
  congrArg KeptPart.queue h

theorem kept_lku_supply {a b : State} (h : a.kept = b.kept) : a.lku.supply = b.lku.supply :=
  congrArg KeptPart.supply h

theorem kept_lnu {a b : State} (h : a.kept = b.kept) : a.lnu = b.lnu := congrArg KeptPart.lnu h

theorem kept_cku {a b : State} (h : a.kept = b.kept) : a.cku = b.cku := congrArg KeptPart.cku h

theorem kept_pending {a b : State} (h : a.kept = b.kept) : a.pending = b.pending :=
  congrArg KeptPart.pending h

end Sys2Proof.Machine
end

