-- ==== Sys2Proof/Laws/Plumbing.lean ====
section
/-!
SUPPORT. The small lemmas of the operations that every handler is made of: putting handlers together, the
parts of the tape's record, and the tables held by number.
-/
namespace Sys2Proof.Machine

@[simp] theorem andThen_fst (h : Handed) (f : State → Handed) : (andThen h f).1 = (f h.1).1 := rfl

@[simp] theorem andThen_snd (h : Handed) (f : State → Handed) :
    (andThen h f).2 = h.2 ++ (f h.1).2 := rfl

@[simp] theorem locksHanded_fst (b : Svu) (h : Handed) : (locksHanded b h).1 = h.1 := by
  unfold locksHanded; split <;> rfl

@[simp] theorem Tau.freshWork_table (t : Tau) : t.freshWork.table = t.table := rfl

@[simp] theorem Tau.emptyDirectory_table (t : Tau) : t.emptyDirectory.table = t.table := rfl

@[simp] theorem Tau.stopRevs_table (t : Tau) : t.stopRevs.table = t.table := rfl

@[simp] theorem Tau.closeEntry_table (t : Tau) : t.closeEntry.table = t.table := by
  unfold Tau.closeEntry; split <;> rfl

@[simp] theorem Tau.follow_table (t : Tau) : t.follow.table = t.table := by
  unfold Tau.follow; split <;> rfl

@[simp] theorem Tau.clampEntries_table (t : Tau) (n : Nat) : (t.clampEntries n).1.table = t.table := rfl

/-- A place written reads as written; every other place reads as before. -/
theorem getD_putAt {α : Type} (l : List α) (i j : Nat) (x d : α) :
    (putAt l i x).getD j d = if i = j ∧ j < l.length then x else l.getD j d := by
  unfold putAt
  simp only [List.getD_eq_getElem?_getD, List.getElem?_set]
  by_cases h : i = j
  · by_cases hj : j < l.length <;> simp [h, hj]
  · simp [h]

@[simp] theorem length_putAt {α : Type} (l : List α) (i : Nat) (x : α) :
    (putAt l i x).length = l.length := by
  simp [putAt]

/-- The agenda with nothing on it. -/
@[simp] theorem settleTasks_nil (report : Reporting) (s : State) :
    settleTasks report (s, []) = some s := rfl

/-- The agenda with one hand-over that leads to no other. -/
theorem settleTasks_one (report : Reporting) (t : Task) (s : State) (h : (perform t s).2 = []) :
    settleTasks report (s, [t]) = some (report s (perform t s).1) := by
  simp [settleTasks, taskBound, runTasks, h]

/-- Each hand-over comes before those that were waiting. -/
theorem runTasks_cons (report : Reporting) (fuel : Nat) (t : Task) (ts : List Task) (s : State) :
    runTasks report (fuel + 1) (t :: ts) s
      = runTasks report fuel ((perform t s).2 ++ ts) (report s (perform t s).1) := rfl

/-- A reading that every hand-over and every report keeps is kept by the agenda. -/
theorem runTasks_keeps {β : Type} (report : Reporting) (read : State → β)
    (h : ∀ t s, read (perform t s).1 = read s) (hr : ∀ a b, read (report a b) = read b) :
    ∀ (fuel : Nat) (ts : List Task) (s u : State),
      runTasks report fuel ts s = some u → read u = read s
  | 0, [], s, u, e => by cases e; rfl
  | _ + 1, [], s, u, e => by cases e; rfl
  | 0, _ :: _, _, _, e => by cases e
  | n + 1, t :: ts, s, u, e =>
      (runTasks_keeps report read h hr n _ _ u e).trans ((hr _ _).trans (h t s))

/-- A law that every hand-over and every report keeps is kept by the agenda. -/
theorem runTasks_preserves (report : Reporting) (law : State → Prop)
    (h : ∀ t s, law s → law (perform t s).1) (hr : ∀ a b, law b → law (report a b)) :
    ∀ (fuel : Nat) (ts : List Task) (s u : State), runTasks report fuel ts s = some u → law s → law u
  | 0, [], s, u, e, hs => by cases e; exact hs
  | _ + 1, [], s, u, e, hs => by cases e; exact hs
  | 0, _ :: _, _, _, e, _ => by cases e
  | n + 1, t :: ts, s, u, e, hs =>
      runTasks_preserves report law h hr n _ _ u e (hr _ _ (h t s hs))

/-! ### Which reports are asked for -/

/-- A kind asked for joins those asked for; none is lost. -/
@[simp] theorem mem_askFor (l : List ReportKind) (k x : ReportKind) :
    x ∈ askFor l k ↔ x ∈ l ∨ x = k := by
  unfold askFor
  split
  · rename_i h
    simp only [List.contains_iff_mem] at h
    exact ⟨Or.inl, fun e => e.elim id (fun e => e ▸ h)⟩
  · simp

theorem mem_foldl_askFor (ks : List ReportKind) :
    ∀ (l : List ReportKind) (x : ReportKind), x ∈ ks.foldl askFor l ↔ x ∈ l ∨ x ∈ ks := by
  induction ks with
  | nil => simp
  | cons k ks ih => intro l x; simp [ih, or_assoc]

/-- R177: a report is built for each kind that was asked for as a change was made, or whose owner names
what has changed. -/
theorem mem_dueKinds (a b : State) (k : ReportKind) :
    k ∈ dueKinds a b ↔ k ∈ b.lku.wanted ∨ reportDue k a b = true := by
  unfold dueKinds
  rw [mem_foldl_askFor, List.mem_filter]
  cases k <;> simp [ReportKind.all]

/-- A block's change asks for its own kind or LINE, where they are due, and for no other. -/
theorem mem_noted_wanted (k x : ReportKind) (a b : State) :
    x ∈ (noted k a b).lku.wanted ↔
      x ∈ b.lku.wanted ∨ ((x = k ∨ x = .line) ∧ reportDue x a b = true) := by
  unfold noted changeKinds
  simp only [mem_foldl_askFor, List.mem_filter, List.mem_cons, List.not_mem_nil, or_false]

/-! ### The asking for reports: `want`, `noted` and `announce` touch `wanted` alone -/

/-- What a block notes of a change is the change itself, with the report kinds that it asks for. -/
theorem noted_eq (k : ReportKind) (a b : State) :
    noted k a b = { b with lku := { b.lku with wanted := (noted k a b).lku.wanted } } := rfl

@[simp] theorem noted_tc (k : ReportKind) (a b : State) : (noted k a b).tc = b.tc := rfl

@[simp] theorem noted_mdu (k : ReportKind) (a b : State) : (noted k a b).mdu = b.mdu := rfl

@[simp] theorem noted_svu (k : ReportKind) (a b : State) : (noted k a b).svu = b.svu := rfl

@[simp] theorem noted_tau (k : ReportKind) (a b : State) : (noted k a b).tau = b.tau := rfl

@[simp] theorem noted_tnu (k : ReportKind) (a b : State) : (noted k a b).tnu = b.tnu := rfl

@[simp] theorem noted_dlp (k : ReportKind) (a b : State) : (noted k a b).dlp = b.dlp := rfl

@[simp] theorem noted_cku (k : ReportKind) (a b : State) : (noted k a b).cku = b.cku := rfl

@[simp] theorem noted_pgt (k : ReportKind) (a b : State) : (noted k a b).pgt = b.pgt := rfl

@[simp] theorem noted_lnu (k : ReportKind) (a b : State) : (noted k a b).lnu = b.lnu := rfl

@[simp] theorem noted_pins (k : ReportKind) (a b : State) : (noted k a b).pins = b.pins := rfl

@[simp] theorem noted_now (k : ReportKind) (a b : State) : (noted k a b).now = b.now := rfl

@[simp] theorem noted_pending (k : ReportKind) (a b : State) : (noted k a b).pending = b.pending := rfl

@[simp] theorem noted_kept (k : ReportKind) (a b : State) : (noted k a b).kept = b.kept := rfl

@[simp] theorem noted_lku_rx (k : ReportKind) (a b : State) :
    (noted k a b).lku.rx = b.lku.rx := rfl

@[simp] theorem noted_lku_hold (k : ReportKind) (a b : State) :
    (noted k a b).lku.hold = b.lku.hold := rfl

@[simp] theorem noted_lku_cause (k : ReportKind) (a b : State) :
    (noted k a b).lku.cause = b.lku.cause := rfl

@[simp] theorem noted_lku_returnTimer (k : ReportKind) (a b : State) :
    (noted k a b).lku.returnTimer = b.lku.returnTimer := rfl

@[simp] theorem noted_lku_queue (k : ReportKind) (a b : State) :
    (noted k a b).lku.queue = b.lku.queue := rfl

@[simp] theorem noted_lku_tx (k : ReportKind) (a b : State) :
    (noted k a b).lku.tx = b.lku.tx := rfl

@[simp] theorem noted_lku_params (k : ReportKind) (a b : State) :
    (noted k a b).lku.params = b.lku.params := rfl

@[simp] theorem noted_lku_latched (k : ReportKind) (a b : State) :
    (noted k a b).lku.latched = b.lku.latched := rfl

@[simp] theorem noted_lku_live (k : ReportKind) (a b : State) :
    (noted k a b).lku.live = b.lku.live := rfl

@[simp] theorem noted_lku_supply (k : ReportKind) (a b : State) :
    (noted k a b).lku.supply = b.lku.supply := rfl

@[simp] theorem announce_tc (t : TState) (s : State) : (announce t s).tc = s.tc := rfl

@[simp] theorem announce_tau (t : TState) (s : State) : (announce t s).tau = s.tau := rfl

@[simp] theorem announce_tnu (t : TState) (s : State) : (announce t s).tnu = s.tnu := rfl

@[simp] theorem announce_pgt (t : TState) (s : State) : (announce t s).pgt = s.pgt := rfl

@[simp] theorem announce_kept (t : TState) (s : State) : (announce t s).kept = s.kept := rfl

/-- The reports of a hand-over touch the outbound queue and the report requests, and nothing else. -/
theorem syncReports_eq (a b : State) :
    syncReports a b = { b with lku := { b.lku with
      queue := (syncReports a b).lku.queue, wanted := [] } } := rfl

@[simp] theorem syncReports_tc (a b : State) : (syncReports a b).tc = b.tc := rfl

@[simp] theorem syncReports_mdu (a b : State) : (syncReports a b).mdu = b.mdu := rfl

@[simp] theorem syncReports_svu (a b : State) : (syncReports a b).svu = b.svu := rfl

@[simp] theorem syncReports_tau (a b : State) : (syncReports a b).tau = b.tau := rfl

@[simp] theorem syncReports_tnu (a b : State) : (syncReports a b).tnu = b.tnu := rfl

@[simp] theorem syncReports_dlp (a b : State) : (syncReports a b).dlp = b.dlp := rfl

@[simp] theorem syncReports_cku (a b : State) : (syncReports a b).cku = b.cku := rfl

@[simp] theorem syncReports_pgt (a b : State) : (syncReports a b).pgt = b.pgt := rfl

@[simp] theorem syncReports_lnu (a b : State) : (syncReports a b).lnu = b.lnu := rfl

@[simp] theorem syncReports_params (a b : State) :
    (syncReports a b).lku.params = b.lku.params := rfl

@[simp] theorem syncReports_latched (a b : State) :
    (syncReports a b).lku.latched = b.lku.latched := rfl

@[simp] theorem syncReports_supply (a b : State) :
    (syncReports a b).lku.supply = b.lku.supply := rfl

@[simp] theorem syncReports_wanted (a b : State) : (syncReports a b).lku.wanted = [] := rfl

/-- What a completed command answers is the end of its agenda with the transmitter served. -/
theorem complete_next {before : State} {h : Handed} {t : State} (e : complete before h = .next t) :
    ∃ u, settleReporting before h = some u ∧ t = startTransmission u := by
  unfold complete at e
  split at e
  · rename_i u hu
    exact ⟨u, hu, by cases e; rfl⟩
  · cases e

@[simp] theorem complete_nil (before s : State) : complete before (s, []) = .next (publish before s) :=
  rfl

end Sys2Proof.Machine
end

