-- ==== Sys2Proof/Laws/FramesKept.lean ====
section
/-!
SUPPORT. What no handler of a block changes in the kept part of the state (`State.kept`), down to
`perform`: no hand-over touches it.
One lemma for each operation, in the order of the files that define them.
-/
set_option linter.unusedTactic false
set_option linter.unreachableTactic false
set_option linter.unnecessarySeqFocus false
namespace Sys2Proof.Machine

/-! ### Ops -/

@[simp] theorem state_passes_kept (s : State) (dt : Tick) :
    (State.passes s dt).kept = s.kept := rfl

@[simp] theorem state_reaches_kept (s : State) (due : Tick) :
    (State.reaches s due).kept = s.kept := rfl

@[simp] theorem want_kept (k : ReportKind) (s : State) :
    (want k s).kept = s.kept := rfl

@[simp] theorem latch_kept (k : Condition) (s : State) :
    (latch k s).kept = s.kept := rfl

@[simp] theorem setAlert_kept (c : Channel) (present : Bool) (s : State) :
    (setAlert c present s).kept = s.kept := rfl

@[simp] theorem raiseCondition_kept (k : Condition) (tripped : Bool) (s : State) :
    (raiseCondition k tripped s).1.kept = s.kept := rfl

@[simp] theorem state_withMotor_kept (s : State) (c : Channel) (x : Motor) :
    (State.withMotor s c x).kept = s.kept := rfl

@[simp] theorem stage_kept (c : Channel) (d : Drive) (s : State) :
    (stage c d s).kept = s.kept := by
  unfold stage; try dsimp only
  (repeat' split) <;> rfl

@[simp] theorem stopMotor_kept (c : Channel) (s : State) :
    (stopMotor c s).kept = s.kept := rfl

@[simp] theorem stopAllMotors_kept (s : State) :
    (stopAllMotors s).kept = s.kept := rfl

/-! ### Motors -/

@[simp] theorem formOutputs_kept (s : State) :
    (formOutputs s).kept = s.kept := rfl

@[simp] theorem sampleSupply_kept (v : Nat) (s : State) :
    (sampleSupply v s).1.kept = s.kept := rfl

@[simp] theorem startPeriod_kept (v : Nat) (s : State) :
    (startPeriod v s).1.kept = s.kept := rfl

@[simp] theorem tripMotor_kept (c : Channel) (s : State) :
    (tripMotor c s).1.kept = s.kept := by
  unfold tripMotor; try dsimp only
  (repeat' split) <;> rfl

@[simp] theorem endRecovery_kept (c : Channel) (s : State) :
    (endRecovery c s).kept = s.kept := by
  unfold endRecovery; try dsimp only
  (repeat' split) <;> rfl

@[simp] theorem releaseMotors_kept (s : State) :
    (releaseMotors s).1.kept = s.kept := rfl

/-! ### Directory -/

@[simp] theorem enterRecording_kept (s : State) :
    (enterRecording s).1.kept = s.kept := by
  unfold enterRecording; try dsimp only
  (repeat' split) <;> rfl

@[simp] theorem enterFound_kept (p : Nat) (s : State) :
    (enterFound p s).kept = s.kept := by
  unfold enterFound; try dsimp only
  (repeat' split) <;> rfl

/-! ### Tape -/

@[simp] theorem restageWind_kept (s : State) :
    (restageWind s).kept = s.kept := by
  unfold restageWind; try dsimp only
  (repeat' split) <;> simp_all

@[simp] theorem refreshZone_kept (s : State) :
    (refreshZone s).kept = s.kept := by
  unfold refreshZone; try dsimp only
  (repeat' split) <;> first | rfl | (simp_all; done) | (simp_all; rfl)

@[simp] theorem refreshEndWarning_kept (s : State) :
    (refreshEndWarning s).kept = s.kept := by
  unfold refreshEndWarning; try dsimp only
  (repeat' split) <;> rfl

@[simp] theorem refreshTape_kept (s : State) :
    (refreshTape s).kept = s.kept := by simp [refreshTape]

@[simp] theorem onRecord_kept (f : Cassette → Cassette) (s : State) :
    (onRecord f s).kept = s.kept := rfl

@[simp] theorem endSeek_kept (r : SeekState) (s : State) :
    (endSeek r s).kept = s.kept := by
  unfold endSeek; try dsimp only
  (repeat' split) <;> rfl

@[simp] theorem discardRecord_kept (s : State) :
    (discardRecord s).kept = s.kept := by
  unfold discardRecord; try dsimp only
  (repeat' split) <;> simp_all

@[simp] theorem freshRecord_kept (s : State) :
    (freshRecord s).kept = s.kept := by
  unfold freshRecord; try dsimp only
  (repeat' split) <;> simp_all

@[simp] theorem setTab_kept (present : Bool) (s : State) :
    (setTab present s).kept = s.kept := rfl

@[simp] theorem setTapeSpeed_kept (v : Option Speed) (s : State) :
    (setTapeSpeed v s).kept = s.kept := rfl

@[simp] theorem setWarnSpeed_kept (v : Speed) (s : State) :
    (setWarnSpeed v s).kept = s.kept := by
  unfold setWarnSpeed; try dsimp only
  (repeat' split) <;> first | rfl | (simp_all; done) | (simp_all; rfl)

@[simp] theorem setPosition_kept (p : Nat) (q : PosQuality) (s : State) :
    (setPosition p q s).kept = s.kept := by
  unfold setPosition; try dsimp only
  (repeat' split) <;> simp_all

@[simp] theorem dropPosition_kept (s : State) :
    (dropPosition s).kept = s.kept := by
  unfold dropPosition; try dsimp only
  (repeat' split) <;> simp_all

@[simp] theorem clampPosition_kept (total : Nat) (s : State) :
    (clampPosition total s).1.kept = s.kept := by
  unfold clampPosition; try dsimp only
  (repeat' split) <;> rfl

@[simp] theorem classify_kept (s : State) :
    (classify s).1.kept = s.kept := by
  unfold classify; try dsimp only
  (repeat' split) <;> first | rfl | (simp_all; done) | (simp_all; rfl)

@[simp] theorem declassify_kept (s : State) :
    (declassify s).kept = s.kept := by
  unfold declassify; try dsimp only
  (repeat' split) <;> simp_all

@[simp] theorem gatherSample_kept (x : Nat) (s : State) :
    (gatherSample x s).1.kept = s.kept := by
  unfold gatherSample; try dsimp only
  (repeat' split) <;> simp_all

@[simp] theorem watchSample_kept (e : CassEntry) (x : Nat) (s : State) :
    (watchSample e x s).kept = s.kept := by
  unfold watchSample; try dsimp only
  (repeat' split) <;> simp_all

@[simp] theorem takeSample_kept (s : State) :
    (takeSample s).1.kept = s.kept := by
  unfold takeSample; try dsimp only
  (repeat' split) <;> simp_all

@[simp] theorem estimatedFix_kept (s : State) :
    (estimatedFix s).kept = s.kept := by
  unfold estimatedFix; try dsimp only
  (repeat' split) <;> simp_all

@[simp] theorem withRev_kept (r : Reel) (m : RevMeas) (s : State) :
    (withRev r m s).kept = s.kept := by
  unfold withRev; try dsimp only
  (repeat' split) <;> rfl

@[simp] theorem driveRevolution_kept (r : Reel) (c : Nat) (s : State) :
    (driveRevolution r c s).1.kept = s.kept := by
  unfold driveRevolution; try dsimp only
  (repeat' split) <;> simp_all

@[simp] theorem windEstimate_kept (s : State) :
    (windEstimate s).kept = s.kept := by
  unfold windEstimate; try dsimp only
  (repeat' split) <;> simp_all

@[simp] theorem windRevolution_kept (r : Reel) (began : Tick) (s : State) :
    (windRevolution r began s).kept = s.kept := by
  unfold windRevolution; try dsimp only
  (repeat' split) <;> simp_all

@[simp] theorem windUnmeasured_kept (s : State) :
    (windUnmeasured s).kept = s.kept := by
  unfold windUnmeasured; try dsimp only
  (repeat' split) <;> simp_all

@[simp] theorem tapeReelPulse_kept (r : Reel) (s : State) :
    (tapeReelPulse r s).1.kept = s.kept := by
  unfold tapeReelPulse; try dsimp only
  (repeat' split) <;> simp_all

@[simp] theorem stepFrame_kept (forward : Bool) (s : State) :
    (stepFrame forward s).kept = s.kept := by
  unfold stepFrame; try dsimp only
  (repeat' split) <;> simp_all

@[simp] theorem countFgStep_kept (s : State) :
    (countFgStep s).kept = s.kept := by
  unfold countFgStep; try dsimp only
  (repeat' split) <;> simp_all

@[simp] theorem countFgRevs_kept (s : State) :
    (countFgRevs s).kept = s.kept := by
  unfold countFgRevs; try dsimp only
  (repeat' split) <;> rfl

@[simp] theorem botFix_kept (s : State) :
    (botFix s).kept = s.kept := by
  unfold botFix; try dsimp only
  (repeat' split) <;> simp_all

@[simp] theorem eotFix_kept (s : State) :
    (eotFix s).kept = s.kept := by
  unfold eotFix; try dsimp only
  (repeat' split) <;> simp_all

@[simp] theorem zeroCounter_kept (s : State) :
    (zeroCounter s).kept = s.kept := rfl

/-! ### Cue -/

@[simp] theorem writeCtl_kept (s : State) :
    (writeCtl s).kept = s.kept := by
  unfold writeCtl; try dsimp only
  (repeat' split) <;> rfl

@[simp] theorem stopWriting_kept (s : State) :
    (stopWriting s).kept = s.kept := rfl

@[simp] theorem markOpening_kept (s : State) :
    (markOpening s).kept = s.kept := by
  unfold markOpening; try dsimp only
  (repeat' split) <;> rfl

@[simp] theorem markHere_kept (s : State) :
    (markHere s).kept = s.kept := by
  unfold markHere; try dsimp only
  (repeat' split) <;> rfl

@[simp] theorem clearWindow_kept (s : State) :
    (clearWindow s).kept = s.kept := rfl

@[simp] theorem seekMark_kept (travel : Int) (pos : Option Nat) (s : State) :
    (seekMark travel pos s).1.kept = s.kept := by
  unfold seekMark; try dsimp only
  (repeat' split) <;> rfl

@[simp] theorem detectMark_kept (s : State) :
    (detectMark s).1.kept = s.kept := by
  unfold detectMark; try dsimp only
  (repeat' split) <;> simp_all

@[simp] theorem risingEdge_kept (s : State) :
    (risingEdge s).1.kept = s.kept := by
  unfold risingEdge; try dsimp only
  (repeat' split) <;> simp_all

@[simp] theorem fallingEdge_kept (s : State) :
    (fallingEdge s).kept = s.kept := by
  unfold fallingEdge; try dsimp only
  (repeat' split) <;> rfl

@[simp] theorem beginSeek_kept (reverse : Bool) (count : Nat) (s : State) :
    (beginSeek reverse count s).kept = s.kept := rfl

@[simp] theorem seekEnters_kept (t : TState) (s : State) :
    (seekEnters t s).kept = s.kept := by
  unfold seekEnters; try dsimp only
  (repeat' split) <;> rfl

/-! ### Servos -/

@[simp] theorem demandDrum_kept (t : DrumTarget) (s : State) :
    (demandDrum t s).kept = s.kept := by
  unfold demandDrum; try dsimp only
  (repeat' split) <;> simp_all

@[simp] theorem demandCap_kept (t : CapTarget) (s : State) :
    (demandCap t s).kept = s.kept := by
  unfold demandCap; try dsimp only
  (repeat' split) <;> simp_all

@[simp] theorem applyDrum_kept (s : State) :
    (applyDrum s).kept = s.kept := by
  unfold applyDrum; try dsimp only
  (repeat' split) <;> simp_all

@[simp] theorem applyCap_kept (s : State) :
    (applyCap s).kept = s.kept := by
  unfold applyCap; try dsimp only
  (repeat' split) <;> simp_all

@[simp] theorem measureDrum_kept (m : Nat) (s : State) :
    (measureDrum m s).kept = s.kept := by simp [measureDrum]

@[simp] theorem measureCap_kept (period m : Nat) (s : State) :
    (measureCap period m s).kept = s.kept := by simp [measureCap]

@[simp] theorem phaseDrum_kept (s : State) :
    (phaseDrum s).kept = s.kept := rfl

@[simp] theorem phaseCap_kept (s : State) :
    (phaseCap s).kept = s.kept := rfl

@[simp] theorem drumPulse_kept (s : State) :
    (drumPulse s).1.kept = s.kept := by
  unfold drumPulse; try dsimp only
  (repeat' split) <;> simp_all

@[simp] theorem capstanPulse_kept (s : State) :
    (capstanPulse s).1.kept = s.kept := by
  unfold capstanPulse; try dsimp only
  (repeat' split) <;> simp_all

@[simp] theorem missingPulse_kept (l : Loop) (s : State) :
    (missingPulse l s).1.kept = s.kept := by
  unfold missingPulse; try dsimp only
  (repeat' split) <;> simp_all

@[simp] theorem beginIdent_kept (s : State) :
    (beginIdent s).kept = s.kept := rfl

@[simp] theorem leavePlay_kept (s : State) :
    (leavePlay s).kept = s.kept := rfl

@[simp] theorem identPeriod_kept (n sum t : Nat) (s : State) :
    (identPeriod n sum t s).kept = s.kept := by
  unfold identPeriod; try dsimp only
  (repeat' split) <;> rfl

@[simp] theorem playCtl_kept (s : State) :
    (playCtl s).1.kept = s.kept := by
  unfold playCtl; try dsimp only
  (repeat' split) <;> simp_all

@[simp] theorem watchdogExpires_kept (s : State) :
    (watchdogExpires s).1.kept = s.kept := by
  unfold watchdogExpires; try dsimp only
  (repeat' split) <;> simp_all

/-! ### Recording -/

@[simp] theorem openRecording_kept (s : State) :
    (openRecording s).1.kept = s.kept := by
  unfold openRecording; try dsimp only
  (repeat' split) <;> simp_all

@[simp] theorem resumeRecording_kept (s : State) :
    (resumeRecording s).kept = s.kept := rfl

@[simp] theorem giveHeldSpeed_kept (s : State) :
    (giveHeldSpeed s).kept = s.kept := by
  unfold giveHeldSpeed; try dsimp only
  (repeat' split) <;> rfl

@[simp] theorem closeRecording_kept (s : State) : (closeRecording s).kept = s.kept := by
  unfold closeRecording
  split
  · rw [giveHeldSpeed_kept, setWarnSpeed_kept, noted_kept]
    simp [State.kept]
  · rfl

@[simp] theorem gateOn_kept (s : State) :
    (gateOn s).kept = s.kept := by
  unfold gateOn; try dsimp only
  (repeat' split) <;> rfl

@[simp] theorem gateOff_kept (s : State) :
    (gateOff s).kept = s.kept := rfl

/-! ### Transport -/

@[simp] theorem demandState_kept (old new : TState) (s : State) :
    (demandState old new s).kept = s.kept := by simp [demandState]

@[simp] theorem leaveState_kept (old new : TState) (s : State) :
    (leaveState old new s).kept = s.kept := by
  unfold leaveState; dsimp only
  split_ifs <;> first | simp | exact (kept_with_tau _ _ rfl).trans (by simp)

@[simp] theorem setState_kept (new : TState) (s : State) :
    (setState new s).kept = s.kept := rfl

@[simp] theorem beginState_kept (new : TState) (s : State) :
    (beginState new s).kept = s.kept := by
  unfold beginState; try dsimp only
  (repeat' split) <;> first | rfl | (simp_all; done) | (simp_all; rfl)

@[simp] theorem beginRecord_kept (s : State) :
    (beginRecord s).1.kept = s.kept := by
  unfold beginRecord; try dsimp only
  (repeat' split) <;> simp_all

@[simp] theorem enterRaw_kept (new : TState) (s : State) :
    (enterRaw new s).1.kept = s.kept := by
  unfold enterRaw; try dsimp only
  (repeat' split) <;> simp_all

@[simp] theorem enter_kept (new : TState) (s : State) :
    (enter new s).1.kept = s.kept := by
  unfold enter; try dsimp only
  (repeat' split) <;> simp_all

@[simp] theorem setGoal_kept (g : Goal) (s : State) :
    (setGoal g s).kept = s.kept := by
  unfold setGoal; try dsimp only
  (repeat' split) <;> simp_all

@[simp] theorem goTo_kept (dest : TState) (s : State) :
    (goTo dest s).1.kept = s.kept := by
  unfold goTo; try dsimp only
  (repeat' split) <;> simp_all

@[simp] theorem startMove_kept (mv : TState) (s : State) :
    (startMove mv s).1.kept = s.kept := by
  unfold startMove; try dsimp only
  (repeat' split) <;> simp_all

@[simp] theorem refuseThreading_kept (s : State) :
    (refuseThreading s).1.kept = s.kept := by
  unfold refuseThreading; try dsimp only
  (repeat' split) <;> simp_all

@[simp] theorem beginMove_kept (mv : TState) (s : State) :
    (beginMove mv s).1.kept = s.kept := by
  unfold beginMove; try dsimp only
  (repeat' split) <;> simp_all

@[simp] theorem planFrom_kept (lv : Level) (s : State) :
    (planFrom lv s).1.kept = s.kept := by
  unfold planFrom; try dsimp only
  (repeat' split) <;> simp_all

@[simp] theorem actOnGoal_kept (s : State) :
    (actOnGoal s).1.kept = s.kept := by
  unfold actOnGoal; try dsimp only
  (repeat' split) <;> simp_all

@[simp] theorem ownGoal_kept (t : Target) (cause : OwnCause) (s : State) :
    (ownGoal t cause s).1.kept = s.kept := by
  unfold ownGoal; try dsimp only
  (repeat' split) <;> simp_all

@[simp] theorem takeSpeed_kept (q : TransportRequest) (s : State) :
    (takeSpeed q s).kept = s.kept := by
  unfold takeSpeed; try dsimp only
  (repeat' split) <;> rfl

@[simp] theorem restartLimits_kept (s : State) :
    (restartLimits s).kept = s.kept := rfl

@[simp] theorem reopenRecording_kept (s : State) :
    (reopenRecording s).1.kept = s.kept := by
  unfold reopenRecording; try dsimp only
  (repeat' split) <;> simp_all

@[simp] theorem ejectDone_kept (s : State) :
    (ejectDone s).kept = s.kept := by
  unfold ejectDone; try dsimp only
  (repeat' split) <;> simp_all

@[simp] theorem ejectMove_kept (c : Cam) (s : State) :
    (ejectMove c s).kept = s.kept := by
  unfold ejectMove; try dsimp only
  (repeat' split) <;> simp_all

@[simp] theorem ejectCam_kept (s : State) :
    (ejectCam s).kept = s.kept := by
  unfold ejectCam; try dsimp only
  (repeat' split) <;> simp_all

@[simp] theorem takeSeek_kept (q : TransportRequest) (s : State) :
    (takeSeek q s).kept = s.kept := by
  unfold takeSeek; try dsimp only
  (repeat' split) <;> simp_all

@[simp] theorem takeRequest_kept (q : TransportRequest) (s : State) :
    (takeRequest q s).1.kept = s.kept := by
  unfold takeRequest; try dsimp only
  (repeat' split) <;> simp_all

@[simp] theorem lineRequest_kept (t : Target) (s : State) :
    (lineRequest t s).1.kept = s.kept := by
  unfold lineRequest; try dsimp only
  (repeat' split) <;> rfl

@[simp] theorem beginLockWait_kept (s : State) :
    (beginLockWait s).1.kept = s.kept := rfl

@[simp] theorem readTab_kept (s : State) :
    (readTab s).1.kept = s.kept := by
  unfold readTab; try dsimp only
  (repeat' split) <;> simp_all

@[simp] theorem arriveAccepting_kept (s : State) :
    (arriveAccepting s).1.kept = s.kept := by
  unfold arriveAccepting; try dsimp only
  (repeat' split) <;> simp_all

@[simp] theorem arriveEjecting_kept (s : State) :
    (arriveEjecting s).1.kept = s.kept := by
  unfold arriveEjecting; try dsimp only
  (repeat' split) <;> simp_all

@[simp] theorem arriveAt_kept (mv : TState) (s : State) :
    (arriveAt mv s).1.kept = s.kept := by
  unfold arriveAt; try dsimp only
  (repeat' split) <;> simp_all

@[simp] theorem arriveReturn_kept (mv failed : TState) (s : State) :
    (arriveReturn mv failed s).1.kept = s.kept := by
  unfold arriveReturn; try dsimp only
  (repeat' split) <;> simp_all

@[simp] theorem stopMove_kept (s : State) :
    (stopMove s).kept = s.kept := by simp [stopMove]

@[simp] theorem arrive_kept (s : State) :
    (arrive s).1.kept = s.kept := by
  unfold arrive; try dsimp only
  (repeat' split) <;> first | rfl | (simp_all; done) | (simp_all; rfl)

@[simp] theorem camSettled_kept (c : Cam) (s : State) :
    (camSettled c s).1.kept = s.kept := by
  unfold camSettled; try dsimp only
  (repeat' split) <;> first | rfl | (simp_all; done) | (simp_all; rfl)

@[simp] theorem cassetteSettled_kept (present : Bool) (s : State) :
    (cassetteSettled present s).1.kept = s.kept := by
  unfold cassetteSettled; try dsimp only
  (repeat' split) <;> simp_all

@[simp] theorem dewSettled_kept (active : Bool) (s : State) :
    (dewSettled active s).1.kept = s.kept := by
  unfold dewSettled; try dsimp only
  (repeat' split) <;> simp_all

@[simp] theorem sensorTakes_kept (r : SensorReading) (s : State) :
    (sensorTakes r s).1.kept = s.kept := by
  unfold sensorTakes; try dsimp only
  (repeat' split) <;> simp_all

@[simp] theorem seeBot_kept (s : State) :
    (seeBot s).1.kept = s.kept := by
  unfold seeBot; try dsimp only
  (repeat' split) <;> simp_all

@[simp] theorem seeEot_kept (s : State) :
    (seeEot s).1.kept = s.kept := by
  unfold seeEot; try dsimp only
  (repeat' split) <;> simp_all

@[simp] theorem seeEnds_kept (s : State) :
    (seeEnds s).1.kept = s.kept := by
  unfold seeEnds; try dsimp only
  (repeat' split) <;> simp_all

@[simp] theorem watchLocks_kept (s : State) :
    (watchLocks s).1.kept = s.kept := by
  unfold watchLocks; try dsimp only
  (repeat' split) <;> simp_all

@[simp] theorem lockWaitExpires_kept (s : State) :
    (lockWaitExpires s).1.kept = s.kept := by
  unfold lockWaitExpires; try dsimp only
  (repeat' split) <;> rfl

@[simp] theorem lockWaitOver_kept (s : State) :
    (lockWaitOver s).1.kept = s.kept := by
  unfold lockWaitOver; try dsimp only
  (repeat' split) <;> rfl

@[simp] theorem recordLockExpires_kept (s : State) :
    (recordLockExpires s).1.kept = s.kept := by
  unfold recordLockExpires; try dsimp only
  (repeat' split) <;> rfl

@[simp] theorem lockWatchOver_kept (s : State) :
    (lockWatchOver s).1.kept = s.kept := by
  unfold lockWatchOver; try dsimp only
  (repeat' split) <;> rfl

@[simp] theorem halt_kept (servo : Bool) (s : State) :
    (halt servo s).1.kept = s.kept := by
  unfold halt; try dsimp only
  (repeat' split) <;> simp_all

@[simp] theorem lockOut_kept (s : State) :
    (lockOut s).1.kept = s.kept := by
  unfold lockOut; try dsimp only
  (repeat' split) <;> simp_all

@[simp] theorem loadingFault_kept (s : State) :
    (loadingFault s).1.kept = s.kept := by
  unfold loadingFault; try dsimp only
  (repeat' split) <;> simp_all

@[simp] theorem ejectFails_kept (s : State) :
    (ejectFails s).kept = s.kept := rfl

@[simp] theorem takeFault_kept (k : Condition) (tripped : Bool) (s : State) :
    (takeFault k tripped s).1.kept = s.kept := by
  unfold takeFault; try dsimp only
  (repeat' split) <;> simp_all

@[simp] theorem moveTimesOut_kept (s : State) :
    (moveTimesOut s).1.kept = s.kept := by
  unfold moveTimesOut; try dsimp only
  (repeat' split) <;> rfl

@[simp] theorem beginRetry_kept (s : State) :
    (beginRetry s).1.kept = s.kept := by
  unfold beginRetry; try dsimp only
  (repeat' split) <;> simp_all

@[simp] theorem recover_kept (s : State) :
    (recover s).1.kept = s.kept := by
  unfold recover; try dsimp only
  (repeat' split) <;> simp_all

@[simp] theorem haltedExpires_kept (s : State) :
    (haltedExpires s).1.kept = s.kept := by
  unfold haltedExpires; try dsimp only
  (repeat' split) <;> simp_all

@[simp] theorem afterRelease_kept (s : State) :
    (afterRelease s).1.kept = s.kept := by
  unfold afterRelease; try dsimp only
  (repeat' split) <;> simp_all

@[simp] theorem retryDecays_kept (s : State) :
    (retryDecays s).kept = s.kept := by
  unfold retryDecays; try dsimp only
  (repeat' split) <;> rfl

@[simp] theorem restartStall_kept (r : Reel) (s : State) :
    (restartStall r s).kept = s.kept := by
  unfold restartStall; try dsimp only
  (repeat' split) <;> rfl

@[simp] theorem stallExpires_kept (s : State) :
    (stallExpires s).1.kept = s.kept := by
  unfold stallExpires; try dsimp only
  (repeat' split) <;> rfl

@[simp] theorem idleExpires_kept (s : State) :
    (idleExpires s).1.kept = s.kept := by
  unfold idleExpires; try dsimp only
  (repeat' split) <;> rfl

@[simp] theorem pauseExpires_kept (s : State) :
    (pauseExpires s).1.kept = s.kept := by
  unfold pauseExpires; try dsimp only
  (repeat' split) <;> rfl

@[simp] theorem ownerChanged_kept (s : State) :
    (ownerChanged s).kept = s.kept := by
  unfold ownerChanged; try dsimp only
  (repeat' split) <;> rfl

@[simp] theorem startUpProcedure_kept (s : State) :
    (startUpProcedure s).1.kept = s.kept := by
  unfold startUpProcedure; try dsimp only
  (repeat' split) <;> simp_all

/-! ### Tuner -/

@[simp] theorem putPreset_kept (p : Nat) (x : Option Preset) (s : State) :
    (putPreset p x s).kept = s.kept := rfl

@[simp] theorem beginWord_kept (w : SynthWord) (s : State) :
    (beginWord w s).kept = s.kept := rfl

@[simp] theorem sendWord_kept (s : State) :
    (sendWord s).kept = s.kept := by
  unfold sendWord; try dsimp only
  (repeat' split) <;> rfl

@[simp] theorem wordEnds_kept (s : State) :
    (wordEnds s).kept = s.kept := by
  unfold wordEnds; try dsimp only
  (repeat' split) <;> first | rfl | (simp_all; done) | (simp_all; rfl)

@[simp] theorem resetTracker_kept (s : State) :
    (resetTracker s).1.kept = s.kept := by
  unfold resetTracker; try dsimp only
  (repeat' split) <;> rfl

@[simp] theorem dropTracker_kept (s : State) :
    (dropTracker s).1.kept = s.kept := by
  unfold dropTracker resetTracker; try dsimp only
  (repeat' split) <;> rfl

@[simp] theorem clearLearning_kept (s : State) :
    (clearLearning s).kept = s.kept := rfl

@[simp] theorem discardCandidate_kept (s : State) :
    (discardCandidate s).kept = s.kept := rfl

@[simp] theorem retuneData_kept (s : State) :
    (retuneData s).1.kept = s.kept := by simp [retuneData]

@[simp] theorem expectCode_kept (e : Nat) (s : State) :
    (expectCode e s).1.kept = s.kept := by
  unfold expectCode; try dsimp only
  (repeat' split) <;> first | rfl | (simp_all; done) | (simp_all; rfl)

@[simp] theorem codeChanged_kept (new : Option Nat) (s : State) :
    (codeChanged new s).1.kept = s.kept := by
  unfold codeChanged; try dsimp only
  (repeat' split) <;> simp_all

@[simp] theorem tuningChange_kept (src : TunedSource) (base fine : Int) (s : State) :
    (tuningChange src base fine s).1.kept = s.kept := by
  unfold tuningChange; try dsimp only
  (repeat' split) <;> first | rfl | (simp_all; done) | (simp_all; rfl)

@[simp] theorem settle_kept (s : State) :
    (settle s).kept = s.kept := rfl

@[simp] theorem settleOn_kept (src : TunedSource) (base fine : Int) (s : State) :
    (settleOn src base fine s).1.kept = s.kept := by simp [settleOn]

@[simp] theorem retunePreset_kept (p : Nat) (s : State) :
    (retunePreset p s).1.kept = s.kept := by
  unfold retunePreset; try dsimp only
  (repeat' split) <;> simp_all

@[simp] theorem tunePresetNow_kept (p : Nat) (s : State) :
    (tunePresetNow p s).1.kept = s.kept := by
  unfold tunePresetNow; try dsimp only
  (repeat' split) <;> simp_all

@[simp] theorem tuneTo_kept (p : Nat) (s : State) :
    (tuneTo p s).1.kept = s.kept := by
  unfold tuneTo; try dsimp only
  (repeat' split) <;> simp_all

@[simp] theorem settled_kept (s : State) :
    (settled s).kept = s.kept := by
  unfold settled; try dsimp only
  (repeat' split) <;> rfl

@[simp] theorem goIdle_kept (s : State) :
    (goIdle s).1.kept = s.kept := by
  unfold goIdle; try dsimp only
  (repeat' split) <;> first | rfl | (simp_all; done) | (simp_all; rfl)

@[simp] theorem setFine_kept (v : Int) (s : State) :
    (setFine v s).kept = s.kept := by
  unfold setFine; try dsimp only
  (repeat' split) <;> first | rfl | (simp_all; done) | (simp_all; rfl)

@[simp] theorem fineTuneTo_kept (v : Int) (s : State) :
    (fineTuneTo v s).kept = s.kept := by
  unfold fineTuneTo; try dsimp only
  (repeat' split) <;> simp_all

@[simp] theorem afcRead_kept (step : Int) (s : State) :
    (afcRead step s).kept = s.kept := by
  unfold afcRead; try dsimp only
  (repeat' split) <;> first | rfl | (simp_all; done) | (simp_all; rfl)

@[simp] theorem afcExpires_kept (low high : Bool) (s : State) :
    (afcExpires low high s).kept = s.kept := by
  unfold afcExpires; try dsimp only
  (repeat' split) <;> first | rfl | (simp_all; done) | (simp_all; rfl)

@[simp] theorem testDivider_kept (n : Int) (s : State) :
    (testDivider n s).1.kept = s.kept := by
  unfold testDivider; try dsimp only
  (repeat' split) <;> simp_all

@[simp] theorem cancelScan_kept (s : State) :
    (cancelScan s).kept = s.kept := by
  unfold cancelScan; try dsimp only
  (repeat' split) <;> rfl

@[simp] theorem enterScan_kept (st : TunerState) (up : Bool) (start : Int) (wrapped : Bool) (s : State) :
    (enterScan st up start wrapped s).kept = s.kept := rfl

@[simp] theorem beginSearch_kept (up : Bool) (s : State) :
    (beginSearch up s).1.kept = s.kept := by
  unfold beginSearch; try dsimp only
  (repeat' split) <;> simp_all

@[simp] theorem beginInstall_kept (p : Nat) (s : State) :
    (beginInstall p s).1.kept = s.kept := by
  unfold beginInstall; try dsimp only
  (repeat' split) <;> simp_all

@[simp] theorem returnToHeld_kept (s : State) :
    (returnToHeld s).1.kept = s.kept := by
  unfold returnToHeld; try dsimp only
  (repeat' split) <;> simp_all

@[simp] theorem searchFails_kept (s : State) :
    (searchFails s).1.kept = s.kept := by
  unfold searchFails; try dsimp only
  (repeat' split) <;> first | rfl | (simp_all; done) | (simp_all; rfl)

@[simp] theorem installEnds_kept (s : State) :
    (installEnds s).1.kept = s.kept := by
  unfold installEnds; try dsimp only
  (repeat' split) <;> simp_all

@[simp] theorem nextStride_kept (stride : Nat) (s : State) :
    (nextStride stride s).1.kept = s.kept := by
  unfold nextStride; try dsimp only
  (repeat' split) <;> simp_all

@[simp] theorem sampleSync_kept (present : Bool) (s : State) :
    (sampleSync present s).1.kept = s.kept := by
  unfold sampleSync; try dsimp only
  (repeat' split) <;> simp_all

@[simp] theorem stationFound_kept (n : Int) (s : State) :
    (stationFound n s).1.kept = s.kept := by
  unfold stationFound; try dsimp only
  (repeat' split) <;> first | rfl | (simp_all; done) | (simp_all; rfl)

@[simp] theorem fineStepTo_kept (n : Int) (s : State) :
    (fineStepTo n s).1.kept = s.kept := by
  unfold fineStepTo; try dsimp only
  (repeat' split) <;> first | rfl | (simp_all; done) | (simp_all; rfl)

@[simp] theorem readFineStep_kept (low high : Bool) (s : State) :
    (readFineStep low high s).1.kept = s.kept := by
  unfold readFineStep; try dsimp only
  (repeat' split) <;> first | rfl | (simp_all; done) | (simp_all; rfl)

@[simp] theorem storeCandidate_kept (x : Preset) (s : State) :
    (storeCandidate x s).kept = s.kept := rfl

@[simp] theorem dwellExpires_kept (s : State) :
    (dwellExpires s).1.kept = s.kept := by
  unfold dwellExpires; try dsimp only
  (repeat' split) <;> simp_all

@[simp] theorem grantTuner_kept (src : Source) (s : State) :
    (grantTuner src s).1.kept = s.kept := by
  unfold grantTuner; try dsimp only
  (repeat' split) <;> simp_all

@[simp] theorem releaseTuner_kept (s : State) :
    (releaseTuner s).kept = s.kept := rfl

@[simp] theorem rewriteTuned_kept (old new : Preset) (s : State) :
    (rewriteTuned old new s).1.kept = s.kept := by
  unfold rewriteTuned; try dsimp only
  (repeat' split) <;> simp_all

@[simp] theorem blankTuned_kept (s : State) :
    (blankTuned s).kept = s.kept := by
  unfold blankTuned; try dsimp only
  (repeat' split) <;> first | rfl | (simp_all; done) | (simp_all; rfl)

@[simp] theorem writePreset_kept (p : Nat) (new : Option Preset) (s : State) :
    (writePreset p new s).1.kept = s.kept := by
  unfold writePreset; try dsimp only
  (repeat' split) <;> simp_all

@[simp] theorem offerCode_kept (code : Nat) (s : State) :
    (offerCode code s).1.kept = s.kept := by
  unfold offerCode; try dsimp only
  (repeat' split) <;> first | rfl | (simp_all; done) | (simp_all; rfl)

@[simp] theorem offerName_kept (name : List Byte) (s : State) :
    (offerName name s).kept = s.kept := by
  unfold offerName; try dsimp only
  (repeat' split) <;> rfl

@[simp] theorem warmTune_kept (s : State) :
    (warmTune s).1.kept = s.kept := by
  unfold warmTune; try dsimp only
  (repeat' split) <;> simp_all

/-! ### DataLines -/

@[simp] theorem learnCode_kept (c : Nat) (s : State) :
    (learnCode c s).1.kept = s.kept := by
  unfold learnCode; try dsimp only
  (repeat' split) <;> first | rfl | (simp_all; done) | (simp_all; rfl)

@[simp] theorem learnName_kept (cs : List Byte) (s : State) :
    (learnName cs s).kept = s.kept := by
  unfold learnName; try dsimp only
  (repeat' split) <;> simp_all

@[simp] theorem restartLoss_kept (s : State) :
    (restartLoss s).kept = s.kept := by
  unfold restartLoss; try dsimp only
  (repeat' split) <;> rfl

@[simp] theorem trackLabel_kept (c : Nat) (v : Option Label) (st : LabelStatus) (s : State) :
    (trackLabel c v st s).1.kept = s.kept := by
  unfold trackLabel; try dsimp only
  (repeat' split) <;> first | rfl | (simp_all; done) | (simp_all; rfl)

@[simp] theorem lossExpires_kept (s : State) :
    (lossExpires s).1.kept = s.kept := by
  unfold lossExpires; try dsimp only
  (repeat' split) <;> rfl

/-! ### Timer -/

@[simp] theorem slotChanged_kept (slot : Nat) (s : State) :
    (slotChanged slot s).kept = s.kept := rfl

@[simp] theorem putRec_kept (slot : Nat) (r : TimerRecord) (s : State) :
    (putRec slot r s).kept = s.kept := by
  unfold putRec; try dsimp only
  (repeat' split) <;> rfl

@[simp] theorem setClaim_kept (c : Option Nat) (s : State) :
    (setClaim c s).kept = s.kept := rfl

@[simp] theorem endIdle_kept (slot : Nat) (res : ResultCode) (s : State) :
    (endIdle slot res s).kept = s.kept := by simp [endIdle]

@[simp] theorem endRec_kept (slot : Nat) (res : ResultCode) (ask serve : Bool) (s : State) :
    (endRec slot res ask serve s).1.kept = s.kept := by simp [endRec]

@[simp] theorem endingStop_kept (s : State) :
    (endingStop s).1.kept = s.kept := by
  unfold endingStop; try dsimp only
  (repeat' split) <;> rfl

@[simp] theorem freeClaim_kept (serve : Bool) (s : State) :
    (freeClaim serve s).1.kept = s.kept := rfl

@[simp] theorem finishRec_kept (slot : Nat) (s : State) :
    (finishRec slot s).kept = s.kept := by
  unfold finishRec; try dsimp only
  (repeat' split) <;> simp_all

@[simp] theorem conflictSlot_kept (s : State) (slot : Nat) :
    (conflictSlot s slot).kept = s.kept := by
  unfold conflictSlot; try dsimp only
  (repeat' split) <;> simp_all

@[simp] theorem serveFirst_kept : ∀ (ns : List Nat) (s : State), (serveFirst ns s).1.kept = s.kept
  | [], _ => rfl
  | n :: ns, s => by
      unfold serveFirst
      split
      · exact (serveFirst_kept ns _).trans (endIdle_kept n _ s)
      · rfl

@[simp] theorem conflictSlots_kept (ns : List Nat) (s : State) :
    (ns.foldl conflictSlot s).kept = s.kept :=
  foldl_keeps State.kept conflictSlot (fun s a => conflictSlot_kept s a) ns s

@[simp] theorem serveDeferred_kept (s : State) : (serveDeferred s).1.kept = s.kept := by
  unfold serveDeferred; try dsimp only
  split <;> simp

@[simp] theorem grantClaim_kept (slot : Nat) (s : State) :
    (grantClaim slot s).1.kept = s.kept := by simp [grantClaim]

@[simp] theorem enterStarting_kept (slot : Nat) (ph : Phase) (s : State) :
    (enterStarting slot ph s).kept = s.kept := by simp [enterStarting]

@[simp] theorem startClock_kept (slot : Nat) (s : State) :
    (startClock slot s).1.kept = s.kept := by
  unfold startClock; try dsimp only
  (repeat' split) <;> simp_all

@[simp] theorem firstRecord_kept (slot : Nat) (s : State) :
    (firstRecord slot s).1.kept = s.kept := by
  unfold firstRecord; try dsimp only
  (repeat' split) <;> simp_all

@[simp] theorem goCheck_kept (s : State) :
    (goCheck s).1.kept = s.kept := by
  unfold goCheck; try dsimp only
  (repeat' split) <;> rfl

@[simp] theorem toWatching_kept (slot : Nat) (s : State) :
    (toWatching slot s).kept = s.kept := by
  unfold toWatching; try dsimp only
  (repeat' split) <;> simp_all

@[simp] theorem timerRequest_kept (t : Target) (s : State) :
    (timerRequest t s).1.kept = s.kept := by
  unfold timerRequest; try dsimp only
  (repeat' split) <;> rfl

@[simp] theorem requestRefused_kept (t : Target) (why : Reason) (s : State) :
    (requestRefused t why s).1.kept = s.kept := by
  unfold requestRefused; try dsimp only
  (repeat' split) <;> rfl

@[simp] theorem labelWatching_kept (n : Nat) (r : TimerRecord) (v : Option Label) (st : LabelStatus) (s : State) :
    (labelWatching n r v st s).1.kept = s.kept := by
  unfold labelWatching; try dsimp only
  (repeat' split) <;> simp_all

@[simp] theorem labelStarting_kept (n : Nat) (r : TimerRecord) (v : Option Label) (st : LabelStatus) (s : State) :
    (labelStarting n r v st s).1.kept = s.kept := by
  unfold labelStarting; try dsimp only
  (repeat' split) <;> simp_all

@[simp] theorem labelRecording_kept (n : Nat) (r : TimerRecord) (v : Option Label) (st : LabelStatus) (s : State) :
    (labelRecording n r v st s).1.kept = s.kept := by
  unfold labelRecording; try dsimp only
  (repeat' split) <;> simp_all

@[simp] theorem labelLoss_kept (n : Nat) (r : TimerRecord) (s : State) :
    (labelLoss n r s).1.kept = s.kept := by
  unfold labelLoss; try dsimp only
  (repeat' split) <;> simp_all

@[simp] theorem labelEvent_kept (t : Tracker) (s : State) :
    (labelEvent t s).1.kept = s.kept := by
  unfold labelEvent; try dsimp only
  (repeat' split) <;> simp_all

@[simp] theorem recordEntered_kept (opened : Option Bool) (n : Nat) (r : TimerRecord) (s : State) :
    (recordEntered opened n r s).kept = s.kept := by
  unfold recordEntered; try dsimp only
  (repeat' split) <;> simp_all

@[simp] theorem pauseEntered_kept (n : Nat) (r : TimerRecord) (s : State) :
    (pauseEntered n r s).1.kept = s.kept := by
  unfold pauseEntered; try dsimp only
  (repeat' split) <;> simp_all

@[simp] theorem transportChanged_kept (new : TState) (opened : Option Bool) (s : State) :
    (transportChanged new opened s).1.kept = s.kept := by
  unfold transportChanged; try dsimp only
  (repeat' split) <;> simp_all

@[simp] theorem ownTargetSet_kept (cause : OwnCause) (s : State) :
    (ownTargetSet cause s).1.kept = s.kept := by
  unfold ownTargetSet; try dsimp only
  (repeat' split) <;> rfl

@[simp] theorem haltSeen_kept (servo : Bool) (s : State) :
    (haltSeen servo s).1.kept = s.kept := by
  unfold haltSeen; try dsimp only
  (repeat' split) <;> rfl

@[simp] theorem eotSeen_kept (s : State) :
    (eotSeen s).1.kept = s.kept := by
  unfold eotSeen; try dsimp only
  (repeat' split) <;> rfl

@[simp] theorem servoUnlocked_kept (s : State) :
    (servoUnlocked s).kept = s.kept := by
  unfold servoUnlocked; try dsimp only
  (repeat' split) <;> simp_all

@[simp] theorem lockWatched_kept (s : State) :
    (lockWatched s).kept = s.kept := by
  unfold lockWatched; try dsimp only
  (repeat' split) <;> simp_all

@[simp] theorem leftUnindexed_kept (s : State) :
    (leftUnindexed s).kept = s.kept := by
  unfold leftUnindexed; try dsimp only
  (repeat' split) <;> simp_all

@[simp] theorem countSecond_kept (s : State) :
    (countSecond s).1.kept = s.kept := by
  unfold countSecond; try dsimp only
  (repeat' split) <;> simp_all

@[simp] theorem fallBack_kept (n : Nat) (r : TimerRecord) (s : State) :
    (fallBack n r s).1.kept = s.kept := by
  unfold fallBack; try dsimp only
  (repeat' split) <;> simp_all

@[simp] theorem startReached_kept (n : Nat) (r : TimerRecord) (s : State) :
    (startReached n r s).1.kept = s.kept := by
  unfold startReached; try dsimp only
  (repeat' split) <;> simp_all

@[simp] theorem holderMoments_kept (late expired : ResultCode) (n : Nat) (r : TimerRecord) (s : State) :
    (holderMoments late expired n r s).1.kept = s.kept := by
  unfold holderMoments; try dsimp only
  (repeat' split) <;> simp_all

@[simp] theorem secondMoments_kept (s : State) :
    (secondMoments s).1.kept = s.kept := by
  unfold secondMoments; try dsimp only
  (repeat' split) <;> simp_all

@[simp] theorem deferRec_kept (slot : Nat) (s : State) :
    (deferRec slot s).kept = s.kept := by simp [deferRec]

@[simp] theorem serveTrigger_kept (slot : Nat) (s : State) :
    (serveTrigger slot s).1.kept = s.kept := by
  unfold serveTrigger; try dsimp only
  (repeat' split) <;> simp_all

@[simp] theorem slotTrigger_kept (slot : Nat) (s : State) :
    (slotTrigger slot s).1.kept = s.kept := by
  unfold slotTrigger; try dsimp only
  (repeat' split) <;> simp_all

@[simp] theorem jumpHolder_kept (s : State) :
    (jumpHolder s).1.kept = s.kept := by
  unfold jumpHolder; try dsimp only
  (repeat' split) <;> simp_all

@[simp] theorem jumpOther_kept (slot : Nat) (s : State) :
    (jumpOther slot s).1.kept = s.kept := by
  unfold jumpOther; try dsimp only
  (repeat' split) <;> simp_all

@[simp] theorem engage_kept (s : State) :
    (engage s).kept = s.kept := by
  unfold engage; try dsimp only
  (repeat' split) <;> simp_all

@[simp] theorem release_kept (s : State) :
    (release s).1.kept = s.kept := by
  unfold release; try dsimp only
  (repeat' split) <;> rfl

@[simp] theorem missDeferred_kept (s : State) (slot : Nat) :
    (missDeferred s slot).kept = s.kept := by
  unfold missDeferred; try dsimp only
  (repeat' split) <;> simp_all

@[simp] theorem missDeferreds_kept (ns : List Nat) (s : State) :
    (ns.foldl missDeferred s).kept = s.kept :=
  foldl_keeps State.kept missDeferred (fun s a => missDeferred_kept s a) ns s

@[simp] theorem disengage_kept (s : State) : (disengage s).kept = s.kept := by
  unfold disengage; try dsimp only
  simp

@[simp] theorem powerFailSlot_kept (s : State) (slot : Nat) :
    (powerFailSlot s slot).kept = s.kept := by
  unfold powerFailSlot; try dsimp only
  (repeat' split) <;> simp_all

@[simp] theorem powerFailSlots_kept (ns : List Nat) (s : State) :
    (ns.foldl powerFailSlot s).kept = s.kept :=
  foldl_keeps State.kept powerFailSlot (fun s a => powerFailSlot_kept s a) ns s

@[simp] theorem powerFailTimer_kept (s : State) : (powerFailTimer s).kept = s.kept := by
  unfold powerFailTimer; simp

@[simp] theorem resetDeckTimer_kept (s : State) :
    (resetDeckTimer s).kept = s.kept := by
  unfold resetDeckTimer; try dsimp only
  (repeat' split) <;> simp_all

@[simp] theorem catchUpSlot_kept (s : State) (slot : Nat) :
    (catchUpSlot s slot).kept = s.kept := by
  unfold catchUpSlot; try dsimp only
  (repeat' split) <;> simp_all

@[simp] theorem catchUpSlots_kept (ns : List Nat) (s : State) :
    (ns.foldl catchUpSlot s).kept = s.kept :=
  foldl_keeps State.kept catchUpSlot (fun s a => catchUpSlot_kept s a) ns s

@[simp] theorem catchUp_kept (s : State) : (catchUp s).1.kept = s.kept := by
  unfold catchUp; try dsimp only
  split <;> simp

/-! ### Lines -/

@[simp] theorem inputEdge_kept (e : LineEvent) (rise : Bool) (s : State) :
    (inputEdge e rise s).1.kept = s.kept := by
  unfold inputEdge; try dsimp only
  (repeat' split) <;> simp_all

/-! ### Agenda -/

/-- No hand-over touches the kept part. -/
@[simp] theorem perform_kept (t : Task) (s : State) : (perform t s).1.kept = s.kept := by
  cases t <;> simp [perform]

end Sys2Proof.Machine
end

