-- ==== Sys2Proof/Laws/FramesPgt.lean ====
section
/-!
SUPPORT. Which operations leave the Programme Timer alone.
One lemma for each operation, in the order of the files that define them.
-/
set_option linter.unusedTactic false
set_option linter.unreachableTactic false
set_option linter.unnecessarySeqFocus false
namespace Sys2Proof.Machine

/-! ### Ops -/

@[simp] theorem state_passes_pgt (s : State) (dt : Tick) :
    (State.passes s dt).pgt = s.pgt := rfl

@[simp] theorem state_reaches_pgt (s : State) (due : Tick) :
    (State.reaches s due).pgt = s.pgt := rfl

@[simp] theorem want_pgt (k : ReportKind) (s : State) :
    (want k s).pgt = s.pgt := rfl

@[simp] theorem latch_pgt (k : Condition) (s : State) :
    (latch k s).pgt = s.pgt := rfl

@[simp] theorem setAlert_pgt (c : Channel) (present : Bool) (s : State) :
    (setAlert c present s).pgt = s.pgt := rfl

@[simp] theorem raiseCondition_pgt (k : Condition) (tripped : Bool) (s : State) :
    (raiseCondition k tripped s).1.pgt = s.pgt := rfl

@[simp] theorem state_withMotor_pgt (s : State) (c : Channel) (x : Motor) :
    (State.withMotor s c x).pgt = s.pgt := rfl

@[simp] theorem stage_pgt (c : Channel) (d : Drive) (s : State) :
    (stage c d s).pgt = s.pgt := by
  unfold stage; try dsimp only
  (repeat' split) <;> rfl

@[simp] theorem stopMotor_pgt (c : Channel) (s : State) :
    (stopMotor c s).pgt = s.pgt := rfl

@[simp] theorem stopAllMotors_pgt (s : State) :
    (stopAllMotors s).pgt = s.pgt := rfl

/-! ### Motors -/

@[simp] theorem formOutputs_pgt (s : State) :
    (formOutputs s).pgt = s.pgt := rfl

@[simp] theorem sampleSupply_pgt (v : Nat) (s : State) :
    (sampleSupply v s).1.pgt = s.pgt := rfl

@[simp] theorem startPeriod_pgt (v : Nat) (s : State) :
    (startPeriod v s).1.pgt = s.pgt := rfl

@[simp] theorem tripMotor_pgt (c : Channel) (s : State) :
    (tripMotor c s).1.pgt = s.pgt := by
  unfold tripMotor; try dsimp only
  (repeat' split) <;> rfl

@[simp] theorem endRecovery_pgt (c : Channel) (s : State) :
    (endRecovery c s).pgt = s.pgt := by
  unfold endRecovery; try dsimp only
  (repeat' split) <;> rfl

@[simp] theorem releaseMotors_pgt (s : State) :
    (releaseMotors s).1.pgt = s.pgt := rfl

/-! ### Directory -/

@[simp] theorem enterRecording_pgt (s : State) :
    (enterRecording s).1.pgt = s.pgt := by
  unfold enterRecording; try dsimp only
  (repeat' split) <;> rfl

@[simp] theorem enterFound_pgt (p : Nat) (s : State) :
    (enterFound p s).pgt = s.pgt := by
  unfold enterFound; try dsimp only
  (repeat' split) <;> rfl

/-! ### Tape -/

@[simp] theorem restageWind_pgt (s : State) :
    (restageWind s).pgt = s.pgt := by
  unfold restageWind; try dsimp only
  (repeat' split) <;> simp_all

@[simp] theorem refreshZone_pgt (s : State) :
    (refreshZone s).pgt = s.pgt := by
  unfold refreshZone; try dsimp only
  (repeat' split) <;> simp_all

@[simp] theorem refreshEndWarning_pgt (s : State) :
    (refreshEndWarning s).pgt = s.pgt := by
  unfold refreshEndWarning; try dsimp only
  (repeat' split) <;> rfl

@[simp] theorem refreshTape_pgt (s : State) :
    (refreshTape s).pgt = s.pgt := by simp [refreshTape]

@[simp] theorem onRecord_pgt (f : Cassette → Cassette) (s : State) :
    (onRecord f s).pgt = s.pgt := rfl

@[simp] theorem endSeek_pgt (r : SeekState) (s : State) :
    (endSeek r s).pgt = s.pgt := by
  unfold endSeek; try dsimp only
  (repeat' split) <;> rfl

@[simp] theorem discardRecord_pgt (s : State) :
    (discardRecord s).pgt = s.pgt := by simp [discardRecord]

@[simp] theorem freshRecord_pgt (s : State) :
    (freshRecord s).pgt = s.pgt := by
  unfold freshRecord; try dsimp only
  (repeat' split) <;> simp_all

@[simp] theorem setTab_pgt (present : Bool) (s : State) :
    (setTab present s).pgt = s.pgt := rfl

@[simp] theorem setTapeSpeed_pgt (v : Option Speed) (s : State) :
    (setTapeSpeed v s).pgt = s.pgt := rfl

@[simp] theorem setWarnSpeed_pgt (v : Speed) (s : State) :
    (setWarnSpeed v s).pgt = s.pgt := by simp [setWarnSpeed]

@[simp] theorem setPosition_pgt (p : Nat) (q : PosQuality) (s : State) :
    (setPosition p q s).pgt = s.pgt := by simp [setPosition]

@[simp] theorem dropPosition_pgt (s : State) :
    (dropPosition s).pgt = s.pgt := by simp [dropPosition]

@[simp] theorem clampPosition_pgt (total : Nat) (s : State) :
    (clampPosition total s).1.pgt = s.pgt := by
  unfold clampPosition; try dsimp only
  (repeat' split) <;> rfl

@[simp] theorem classify_pgt (s : State) :
    (classify s).1.pgt = s.pgt := by
  unfold classify; try dsimp only
  (repeat' split) <;> simp_all

@[simp] theorem declassify_pgt (s : State) :
    (declassify s).pgt = s.pgt := by
  unfold declassify; try dsimp only
  (repeat' split) <;> simp_all

@[simp] theorem gatherSample_pgt (x : Nat) (s : State) :
    (gatherSample x s).1.pgt = s.pgt := by
  unfold gatherSample; try dsimp only
  (repeat' split) <;> simp_all

@[simp] theorem watchSample_pgt (e : CassEntry) (x : Nat) (s : State) :
    (watchSample e x s).pgt = s.pgt := by
  unfold watchSample; try dsimp only
  (repeat' split) <;> simp_all

@[simp] theorem takeSample_pgt (s : State) :
    (takeSample s).1.pgt = s.pgt := by
  unfold takeSample; try dsimp only
  (repeat' split) <;> simp_all

@[simp] theorem estimatedFix_pgt (s : State) :
    (estimatedFix s).pgt = s.pgt := by
  unfold estimatedFix; try dsimp only
  (repeat' split) <;> simp_all

@[simp] theorem withRev_pgt (r : Reel) (m : RevMeas) (s : State) :
    (withRev r m s).pgt = s.pgt := by
  unfold withRev; try dsimp only
  (repeat' split) <;> rfl

@[simp] theorem driveRevolution_pgt (r : Reel) (c : Nat) (s : State) :
    (driveRevolution r c s).1.pgt = s.pgt := by
  unfold driveRevolution; try dsimp only
  (repeat' split) <;> simp_all

@[simp] theorem windEstimate_pgt (s : State) :
    (windEstimate s).pgt = s.pgt := by
  unfold windEstimate; try dsimp only
  (repeat' split) <;> simp_all

@[simp] theorem windRevolution_pgt (r : Reel) (began : Tick) (s : State) :
    (windRevolution r began s).pgt = s.pgt := by
  unfold windRevolution; try dsimp only
  (repeat' split) <;> simp_all

@[simp] theorem windUnmeasured_pgt (s : State) :
    (windUnmeasured s).pgt = s.pgt := by
  unfold windUnmeasured; try dsimp only
  (repeat' split) <;> simp_all

@[simp] theorem tapeReelPulse_pgt (r : Reel) (s : State) :
    (tapeReelPulse r s).1.pgt = s.pgt := by
  unfold tapeReelPulse; try dsimp only
  (repeat' split) <;> simp_all

@[simp] theorem stepFrame_pgt (forward : Bool) (s : State) :
    (stepFrame forward s).pgt = s.pgt := by simp [stepFrame]

@[simp] theorem countFgStep_pgt (s : State) :
    (countFgStep s).pgt = s.pgt := by
  unfold countFgStep; try dsimp only
  (repeat' split) <;> simp_all

@[simp] theorem countFgRevs_pgt (s : State) :
    (countFgRevs s).pgt = s.pgt := by
  unfold countFgRevs; try dsimp only
  (repeat' split) <;> rfl

@[simp] theorem botFix_pgt (s : State) :
    (botFix s).pgt = s.pgt := by simp [botFix]

@[simp] theorem eotFix_pgt (s : State) :
    (eotFix s).pgt = s.pgt := by
  unfold eotFix; try dsimp only
  (repeat' split) <;> simp_all

@[simp] theorem zeroCounter_pgt (s : State) :
    (zeroCounter s).pgt = s.pgt := rfl

@[simp] theorem writeEntry_pgt (i : Nat) (e : Option CassEntry) (s : State) :
    (writeEntry i e s).1.pgt = s.pgt := by
  unfold writeEntry; try dsimp only
  (repeat' split) <;> simp_all

/-! ### Cue -/

@[simp] theorem writeCtl_pgt (s : State) :
    (writeCtl s).pgt = s.pgt := by
  unfold writeCtl; try dsimp only
  (repeat' split) <;> rfl

@[simp] theorem stopWriting_pgt (s : State) :
    (stopWriting s).pgt = s.pgt := rfl

@[simp] theorem markOpening_pgt (s : State) :
    (markOpening s).pgt = s.pgt := by
  unfold markOpening; try dsimp only
  (repeat' split) <;> rfl

@[simp] theorem markHere_pgt (s : State) :
    (markHere s).pgt = s.pgt := by
  unfold markHere; try dsimp only
  (repeat' split) <;> rfl

@[simp] theorem clearWindow_pgt (s : State) :
    (clearWindow s).pgt = s.pgt := rfl

@[simp] theorem seekMark_pgt (travel : Int) (pos : Option Nat) (s : State) :
    (seekMark travel pos s).1.pgt = s.pgt := by
  unfold seekMark; try dsimp only
  (repeat' split) <;> rfl

@[simp] theorem detectMark_pgt (s : State) :
    (detectMark s).1.pgt = s.pgt := by
  unfold detectMark; try dsimp only
  (repeat' split) <;> simp_all

@[simp] theorem risingEdge_pgt (s : State) :
    (risingEdge s).1.pgt = s.pgt := by
  unfold risingEdge; try dsimp only
  (repeat' split) <;> simp_all

@[simp] theorem fallingEdge_pgt (s : State) :
    (fallingEdge s).pgt = s.pgt := by
  unfold fallingEdge; try dsimp only
  (repeat' split) <;> rfl

@[simp] theorem beginSeek_pgt (reverse : Bool) (count : Nat) (s : State) :
    (beginSeek reverse count s).pgt = s.pgt := rfl

@[simp] theorem seekEnters_pgt (t : TState) (s : State) :
    (seekEnters t s).pgt = s.pgt := by
  unfold seekEnters; try dsimp only
  (repeat' split) <;> rfl

/-! ### Servos -/

@[simp] theorem demandDrum_pgt (t : DrumTarget) (s : State) :
    (demandDrum t s).pgt = s.pgt := by
  unfold demandDrum; try dsimp only
  (repeat' split) <;> simp_all

@[simp] theorem demandCap_pgt (t : CapTarget) (s : State) :
    (demandCap t s).pgt = s.pgt := by
  unfold demandCap; try dsimp only
  (repeat' split) <;> simp_all

@[simp] theorem applyDrum_pgt (s : State) :
    (applyDrum s).pgt = s.pgt := by
  unfold applyDrum; try dsimp only
  (repeat' split) <;> simp_all

@[simp] theorem applyCap_pgt (s : State) :
    (applyCap s).pgt = s.pgt := by
  unfold applyCap; try dsimp only
  (repeat' split) <;> simp_all

@[simp] theorem refPulse_pgt (video : Bool) (s : State) :
    (refPulse video s).1.pgt = s.pgt := by
  unfold refPulse; try dsimp only
  (repeat' split) <;> simp_all

@[simp] theorem videoPulse_pgt (s : State) :
    (videoPulse s).1.pgt = s.pgt := by
  unfold videoPulse; try dsimp only
  (repeat' split) <;> simp_all

@[simp] theorem internalPulse_pgt (s : State) :
    (internalPulse s).1.pgt = s.pgt := by
  unfold internalPulse; try dsimp only
  (repeat' split) <;> simp_all

@[simp] theorem measureDrum_pgt (m : Nat) (s : State) :
    (measureDrum m s).pgt = s.pgt := by simp [measureDrum]

@[simp] theorem measureCap_pgt (period m : Nat) (s : State) :
    (measureCap period m s).pgt = s.pgt := by simp [measureCap]

@[simp] theorem phaseDrum_pgt (s : State) :
    (phaseDrum s).pgt = s.pgt := rfl

@[simp] theorem phaseCap_pgt (s : State) :
    (phaseCap s).pgt = s.pgt := rfl

@[simp] theorem drumPulse_pgt (s : State) :
    (drumPulse s).1.pgt = s.pgt := by
  unfold drumPulse; try dsimp only
  (repeat' split) <;> simp_all

@[simp] theorem capstanPulse_pgt (s : State) :
    (capstanPulse s).1.pgt = s.pgt := by
  unfold capstanPulse; try dsimp only
  (repeat' split) <;> simp_all

@[simp] theorem missingPulse_pgt (l : Loop) (s : State) :
    (missingPulse l s).1.pgt = s.pgt := by
  unfold missingPulse; try dsimp only
  (repeat' split) <;> simp_all

@[simp] theorem beginIdent_pgt (s : State) :
    (beginIdent s).pgt = s.pgt := rfl

@[simp] theorem leavePlay_pgt (s : State) :
    (leavePlay s).pgt = s.pgt := rfl

@[simp] theorem identPeriod_pgt (n sum t : Nat) (s : State) :
    (identPeriod n sum t s).pgt = s.pgt := by
  unfold identPeriod; try dsimp only
  (repeat' split) <;> rfl

@[simp] theorem playCtl_pgt (s : State) :
    (playCtl s).1.pgt = s.pgt := by
  unfold playCtl; try dsimp only
  (repeat' split) <;> simp_all

@[simp] theorem watchdogExpires_pgt (s : State) :
    (watchdogExpires s).1.pgt = s.pgt := by
  unfold watchdogExpires; try dsimp only
  (repeat' split) <;> simp_all

/-! ### Recording -/

@[simp] theorem openRecording_pgt (s : State) :
    (openRecording s).1.pgt = s.pgt := by
  unfold openRecording; try dsimp only
  (repeat' split) <;> simp_all

@[simp] theorem resumeRecording_pgt (s : State) :
    (resumeRecording s).pgt = s.pgt := rfl

@[simp] theorem giveHeldSpeed_pgt (s : State) :
    (giveHeldSpeed s).pgt = s.pgt := by
  unfold giveHeldSpeed; try dsimp only
  (repeat' split) <;> rfl

@[simp] theorem closeRecording_pgt (s : State) :
    (closeRecording s).pgt = s.pgt := by
  unfold closeRecording; try dsimp only
  (repeat' split) <;> simp_all

@[simp] theorem gateOn_pgt (s : State) :
    (gateOn s).pgt = s.pgt := by
  unfold gateOn; try dsimp only
  (repeat' split) <;> rfl

@[simp] theorem gateOff_pgt (s : State) :
    (gateOff s).pgt = s.pgt := rfl

/-! ### Transport -/

@[simp] theorem demandState_pgt (old new : TState) (s : State) :
    (demandState old new s).pgt = s.pgt := by simp [demandState]

@[simp] theorem leaveState_pgt (old new : TState) (s : State) :
    (leaveState old new s).pgt = s.pgt := by
  unfold leaveState; try dsimp only
  (repeat' split) <;> simp_all

@[simp] theorem setState_pgt (new : TState) (s : State) :
    (setState new s).pgt = s.pgt := rfl

@[simp] theorem beginState_pgt (new : TState) (s : State) :
    (beginState new s).pgt = s.pgt := by
  unfold beginState; try dsimp only
  (repeat' split) <;> simp_all

@[simp] theorem beginRecord_pgt (s : State) :
    (beginRecord s).1.pgt = s.pgt := by
  unfold beginRecord; try dsimp only
  (repeat' split) <;> simp_all

@[simp] theorem enterRaw_pgt (new : TState) (s : State) :
    (enterRaw new s).1.pgt = s.pgt := by
  unfold enterRaw; try dsimp only
  (repeat' split) <;> simp_all

@[simp] theorem enter_pgt (new : TState) (s : State) :
    (enter new s).1.pgt = s.pgt := by
  unfold enter; try dsimp only
  (repeat' split) <;> simp_all

@[simp] theorem setGoal_pgt (g : Goal) (s : State) :
    (setGoal g s).pgt = s.pgt := by
  unfold setGoal; try dsimp only
  (repeat' split) <;> simp_all

@[simp] theorem goTo_pgt (dest : TState) (s : State) :
    (goTo dest s).1.pgt = s.pgt := by
  unfold goTo; try dsimp only
  (repeat' split) <;> simp_all

@[simp] theorem startMove_pgt (mv : TState) (s : State) :
    (startMove mv s).1.pgt = s.pgt := by
  unfold startMove; try dsimp only
  (repeat' split) <;> simp_all

@[simp] theorem refuseThreading_pgt (s : State) :
    (refuseThreading s).1.pgt = s.pgt := by simp [refuseThreading]

@[simp] theorem beginMove_pgt (mv : TState) (s : State) :
    (beginMove mv s).1.pgt = s.pgt := by
  unfold beginMove; try dsimp only
  (repeat' split) <;> simp_all

@[simp] theorem planFrom_pgt (lv : Level) (s : State) :
    (planFrom lv s).1.pgt = s.pgt := by
  unfold planFrom; try dsimp only
  (repeat' split) <;> simp_all

@[simp] theorem actOnGoal_pgt (s : State) :
    (actOnGoal s).1.pgt = s.pgt := by
  unfold actOnGoal; try dsimp only
  (repeat' split) <;> simp_all

@[simp] theorem ownGoal_pgt (t : Target) (cause : OwnCause) (s : State) :
    (ownGoal t cause s).1.pgt = s.pgt := by
  unfold ownGoal; try dsimp only
  (repeat' split) <;> simp_all

@[simp] theorem takeSpeed_pgt (q : TransportRequest) (s : State) :
    (takeSpeed q s).pgt = s.pgt := by
  unfold takeSpeed; try dsimp only
  (repeat' split) <;> rfl

@[simp] theorem restartLimits_pgt (s : State) :
    (restartLimits s).pgt = s.pgt := rfl

@[simp] theorem reopenRecording_pgt (s : State) :
    (reopenRecording s).1.pgt = s.pgt := by simp [reopenRecording]

@[simp] theorem ejectDone_pgt (s : State) :
    (ejectDone s).pgt = s.pgt := by simp [ejectDone]

@[simp] theorem ejectMove_pgt (c : Cam) (s : State) :
    (ejectMove c s).pgt = s.pgt := by
  unfold ejectMove; try dsimp only
  (repeat' split) <;> simp_all

@[simp] theorem ejectCam_pgt (s : State) :
    (ejectCam s).pgt = s.pgt := by
  unfold ejectCam; try dsimp only
  (repeat' split) <;> simp_all

@[simp] theorem takeSeek_pgt (q : TransportRequest) (s : State) :
    (takeSeek q s).pgt = s.pgt := by
  unfold takeSeek; try dsimp only
  (repeat' split) <;> simp_all

@[simp] theorem takeRequest_pgt (q : TransportRequest) (s : State) :
    (takeRequest q s).1.pgt = s.pgt := by
  unfold takeRequest; try dsimp only
  (repeat' split) <;> simp_all

@[simp] theorem lineRequest_pgt (t : Target) (s : State) :
    (lineRequest t s).1.pgt = s.pgt := by
  unfold lineRequest; try dsimp only
  (repeat' split) <;> rfl

@[simp] theorem beginLockWait_pgt (s : State) :
    (beginLockWait s).1.pgt = s.pgt := rfl

@[simp] theorem readTab_pgt (s : State) :
    (readTab s).1.pgt = s.pgt := by
  unfold readTab; try dsimp only
  (repeat' split) <;> simp_all

@[simp] theorem arriveAccepting_pgt (s : State) :
    (arriveAccepting s).1.pgt = s.pgt := by
  unfold arriveAccepting; try dsimp only
  (repeat' split) <;> simp_all

@[simp] theorem arriveEjecting_pgt (s : State) :
    (arriveEjecting s).1.pgt = s.pgt := by
  unfold arriveEjecting; try dsimp only
  (repeat' split) <;> simp_all

@[simp] theorem arriveAt_pgt (mv : TState) (s : State) :
    (arriveAt mv s).1.pgt = s.pgt := by
  unfold arriveAt; try dsimp only
  (repeat' split) <;> simp_all

@[simp] theorem arriveReturn_pgt (mv failed : TState) (s : State) :
    (arriveReturn mv failed s).1.pgt = s.pgt := by
  unfold arriveReturn; try dsimp only
  (repeat' split) <;> simp_all

@[simp] theorem stopMove_pgt (s : State) :
    (stopMove s).pgt = s.pgt := by simp [stopMove]

@[simp] theorem arrive_pgt (s : State) :
    (arrive s).1.pgt = s.pgt := by
  unfold arrive; try dsimp only
  (repeat' split) <;> simp_all

@[simp] theorem camSettled_pgt (c : Cam) (s : State) :
    (camSettled c s).1.pgt = s.pgt := by
  unfold camSettled; try dsimp only
  (repeat' split) <;> simp_all

@[simp] theorem cassetteSettled_pgt (present : Bool) (s : State) :
    (cassetteSettled present s).1.pgt = s.pgt := by
  unfold cassetteSettled; try dsimp only
  (repeat' split) <;> simp_all

@[simp] theorem dewSettled_pgt (active : Bool) (s : State) :
    (dewSettled active s).1.pgt = s.pgt := by
  unfold dewSettled; try dsimp only
  (repeat' split) <;> simp_all

@[simp] theorem sensorTakes_pgt (r : SensorReading) (s : State) :
    (sensorTakes r s).1.pgt = s.pgt := by
  unfold sensorTakes; try dsimp only
  (repeat' split) <;> simp_all

@[simp] theorem seeBot_pgt (s : State) :
    (seeBot s).1.pgt = s.pgt := by
  unfold seeBot; try dsimp only
  (repeat' split) <;> simp_all

@[simp] theorem seeEot_pgt (s : State) :
    (seeEot s).1.pgt = s.pgt := by
  unfold seeEot; try dsimp only
  (repeat' split) <;> simp_all

@[simp] theorem seeEnds_pgt (s : State) :
    (seeEnds s).1.pgt = s.pgt := by
  unfold seeEnds; try dsimp only
  (repeat' split) <;> simp_all

@[simp] theorem watchLocks_pgt (s : State) :
    (watchLocks s).1.pgt = s.pgt := by
  unfold watchLocks; try dsimp only
  (repeat' split) <;> simp_all

@[simp] theorem lockWaitExpires_pgt (s : State) :
    (lockWaitExpires s).1.pgt = s.pgt := by
  unfold lockWaitExpires; try dsimp only
  (repeat' split) <;> rfl

@[simp] theorem lockWaitOver_pgt (s : State) :
    (lockWaitOver s).1.pgt = s.pgt := by
  unfold lockWaitOver; try dsimp only
  (repeat' split) <;> rfl

@[simp] theorem recordLockExpires_pgt (s : State) :
    (recordLockExpires s).1.pgt = s.pgt := by
  unfold recordLockExpires; try dsimp only
  (repeat' split) <;> rfl

@[simp] theorem lockWatchOver_pgt (s : State) :
    (lockWatchOver s).1.pgt = s.pgt := by
  unfold lockWatchOver; try dsimp only
  (repeat' split) <;> rfl

@[simp] theorem halt_pgt (servo : Bool) (s : State) :
    (halt servo s).1.pgt = s.pgt := by simp [halt]

@[simp] theorem lockOut_pgt (s : State) :
    (lockOut s).1.pgt = s.pgt := by simp [lockOut]

@[simp] theorem loadingFault_pgt (s : State) :
    (loadingFault s).1.pgt = s.pgt := by
  unfold loadingFault; try dsimp only
  (repeat' split) <;> simp_all

@[simp] theorem ejectFails_pgt (s : State) :
    (ejectFails s).pgt = s.pgt := rfl

@[simp] theorem takeFault_pgt (k : Condition) (tripped : Bool) (s : State) :
    (takeFault k tripped s).1.pgt = s.pgt := by
  unfold takeFault; try dsimp only
  (repeat' split) <;> simp_all

@[simp] theorem moveTimesOut_pgt (s : State) :
    (moveTimesOut s).1.pgt = s.pgt := by
  unfold moveTimesOut; try dsimp only
  (repeat' split) <;> rfl

@[simp] theorem beginRetry_pgt (s : State) :
    (beginRetry s).1.pgt = s.pgt := by
  unfold beginRetry; try dsimp only
  (repeat' split) <;> simp_all

@[simp] theorem recover_pgt (s : State) :
    (recover s).1.pgt = s.pgt := by
  unfold recover; try dsimp only
  (repeat' split) <;> simp_all

@[simp] theorem haltedExpires_pgt (s : State) :
    (haltedExpires s).1.pgt = s.pgt := by
  unfold haltedExpires; try dsimp only
  (repeat' split) <;> simp_all

@[simp] theorem afterRelease_pgt (s : State) :
    (afterRelease s).1.pgt = s.pgt := by
  unfold afterRelease; try dsimp only
  (repeat' split) <;> simp_all

@[simp] theorem retryDecays_pgt (s : State) :
    (retryDecays s).pgt = s.pgt := by
  unfold retryDecays; try dsimp only
  (repeat' split) <;> rfl

@[simp] theorem restartStall_pgt (r : Reel) (s : State) :
    (restartStall r s).pgt = s.pgt := by
  unfold restartStall; try dsimp only
  (repeat' split) <;> rfl

@[simp] theorem stallExpires_pgt (s : State) :
    (stallExpires s).1.pgt = s.pgt := by
  unfold stallExpires; try dsimp only
  (repeat' split) <;> rfl

@[simp] theorem idleExpires_pgt (s : State) :
    (idleExpires s).1.pgt = s.pgt := by
  unfold idleExpires; try dsimp only
  (repeat' split) <;> rfl

@[simp] theorem pauseExpires_pgt (s : State) :
    (pauseExpires s).1.pgt = s.pgt := by
  unfold pauseExpires; try dsimp only
  (repeat' split) <;> rfl

@[simp] theorem ownerChanged_pgt (s : State) :
    (ownerChanged s).pgt = s.pgt := by
  unfold ownerChanged; try dsimp only
  (repeat' split) <;> rfl

@[simp] theorem startUpProcedure_pgt (s : State) :
    (startUpProcedure s).1.pgt = s.pgt := by
  unfold startUpProcedure; try dsimp only
  (repeat' split) <;> simp_all

/-! ### Tuner -/

@[simp] theorem putPreset_pgt (p : Nat) (x : Option Preset) (s : State) :
    (putPreset p x s).pgt = s.pgt := rfl

@[simp] theorem beginWord_pgt (w : SynthWord) (s : State) :
    (beginWord w s).pgt = s.pgt := rfl

@[simp] theorem sendWord_pgt (s : State) :
    (sendWord s).pgt = s.pgt := by
  unfold sendWord; try dsimp only
  (repeat' split) <;> rfl

@[simp] theorem wordEnds_pgt (s : State) :
    (wordEnds s).pgt = s.pgt := by
  unfold wordEnds; try dsimp only
  (repeat' split) <;> simp_all

@[simp] theorem resetTracker_pgt (s : State) :
    (resetTracker s).1.pgt = s.pgt := by
  unfold resetTracker; try dsimp only
  (repeat' split) <;> rfl

@[simp] theorem dropTracker_pgt (s : State) :
    (dropTracker s).1.pgt = s.pgt := by
  unfold dropTracker resetTracker; try dsimp only
  (repeat' split) <;> rfl

@[simp] theorem clearLearning_pgt (s : State) :
    (clearLearning s).pgt = s.pgt := rfl

@[simp] theorem discardCandidate_pgt (s : State) :
    (discardCandidate s).pgt = s.pgt := rfl

@[simp] theorem retuneData_pgt (s : State) :
    (retuneData s).1.pgt = s.pgt := by simp [retuneData]

@[simp] theorem expectCode_pgt (e : Nat) (s : State) :
    (expectCode e s).1.pgt = s.pgt := by
  unfold expectCode; try dsimp only
  (repeat' split) <;> simp_all

@[simp] theorem codeChanged_pgt (new : Option Nat) (s : State) :
    (codeChanged new s).1.pgt = s.pgt := by
  unfold codeChanged; try dsimp only
  (repeat' split) <;> simp_all

@[simp] theorem tuningChange_pgt (src : TunedSource) (base fine : Int) (s : State) :
    (tuningChange src base fine s).1.pgt = s.pgt := by simp [tuningChange]

@[simp] theorem settle_pgt (s : State) :
    (settle s).pgt = s.pgt := rfl

@[simp] theorem settleOn_pgt (src : TunedSource) (base fine : Int) (s : State) :
    (settleOn src base fine s).1.pgt = s.pgt := by simp [settleOn]

@[simp] theorem retunePreset_pgt (p : Nat) (s : State) :
    (retunePreset p s).1.pgt = s.pgt := by
  unfold retunePreset; try dsimp only
  (repeat' split) <;> simp_all

@[simp] theorem tunePresetNow_pgt (p : Nat) (s : State) :
    (tunePresetNow p s).1.pgt = s.pgt := by simp [tunePresetNow]

@[simp] theorem tuneTo_pgt (p : Nat) (s : State) :
    (tuneTo p s).1.pgt = s.pgt := by
  unfold tuneTo; try dsimp only
  (repeat' split) <;> simp_all

@[simp] theorem settled_pgt (s : State) :
    (settled s).pgt = s.pgt := by
  unfold settled; try dsimp only
  (repeat' split) <;> rfl

@[simp] theorem goIdle_pgt (s : State) :
    (goIdle s).1.pgt = s.pgt := by simp [goIdle]

@[simp] theorem setFine_pgt (v : Int) (s : State) :
    (setFine v s).pgt = s.pgt := by simp [setFine]

@[simp] theorem fineTuneTo_pgt (v : Int) (s : State) :
    (fineTuneTo v s).pgt = s.pgt := by
  unfold fineTuneTo; try dsimp only
  (repeat' split) <;> simp_all

@[simp] theorem afcRead_pgt (step : Int) (s : State) :
    (afcRead step s).pgt = s.pgt := by
  unfold afcRead; try dsimp only
  (repeat' split) <;> simp_all

@[simp] theorem afcExpires_pgt (low high : Bool) (s : State) :
    (afcExpires low high s).pgt = s.pgt := by
  unfold afcExpires; try dsimp only
  (repeat' split) <;> simp_all

@[simp] theorem testDivider_pgt (n : Int) (s : State) :
    (testDivider n s).1.pgt = s.pgt := by simp [testDivider]

@[simp] theorem cancelScan_pgt (s : State) :
    (cancelScan s).pgt = s.pgt := by
  unfold cancelScan; try dsimp only
  (repeat' split) <;> rfl

@[simp] theorem enterScan_pgt (st : TunerState) (up : Bool) (start : Int) (wrapped : Bool) (s : State) :
    (enterScan st up start wrapped s).pgt = s.pgt := rfl

@[simp] theorem beginSearch_pgt (up : Bool) (s : State) :
    (beginSearch up s).1.pgt = s.pgt := by simp [beginSearch]

@[simp] theorem beginInstall_pgt (p : Nat) (s : State) :
    (beginInstall p s).1.pgt = s.pgt := by simp [beginInstall]

@[simp] theorem returnToHeld_pgt (s : State) :
    (returnToHeld s).1.pgt = s.pgt := by
  unfold returnToHeld; try dsimp only
  (repeat' split) <;> simp_all

@[simp] theorem searchFails_pgt (s : State) :
    (searchFails s).1.pgt = s.pgt := by simp [searchFails]

@[simp] theorem installEnds_pgt (s : State) :
    (installEnds s).1.pgt = s.pgt := by
  unfold installEnds; try dsimp only
  (repeat' split) <;> simp_all

@[simp] theorem nextStride_pgt (stride : Nat) (s : State) :
    (nextStride stride s).1.pgt = s.pgt := by
  unfold nextStride; try dsimp only
  (repeat' split) <;> simp_all

@[simp] theorem sampleSync_pgt (present : Bool) (s : State) :
    (sampleSync present s).1.pgt = s.pgt := by
  unfold sampleSync; try dsimp only
  (repeat' split) <;> simp_all

@[simp] theorem stationFound_pgt (n : Int) (s : State) :
    (stationFound n s).1.pgt = s.pgt := by
  unfold stationFound; try dsimp only
  (repeat' split) <;> simp_all

@[simp] theorem fineStepTo_pgt (n : Int) (s : State) :
    (fineStepTo n s).1.pgt = s.pgt := by simp [fineStepTo]

@[simp] theorem readFineStep_pgt (low high : Bool) (s : State) :
    (readFineStep low high s).1.pgt = s.pgt := by
  unfold readFineStep; try dsimp only
  (repeat' split) <;> simp_all

@[simp] theorem storeCandidate_pgt (x : Preset) (s : State) :
    (storeCandidate x s).pgt = s.pgt := rfl

@[simp] theorem dwellExpires_pgt (s : State) :
    (dwellExpires s).1.pgt = s.pgt := by
  unfold dwellExpires; try dsimp only
  (repeat' split) <;> simp_all

@[simp] theorem grantTuner_pgt (src : Source) (s : State) :
    (grantTuner src s).1.pgt = s.pgt := by
  unfold grantTuner; try dsimp only
  (repeat' split) <;> simp_all

@[simp] theorem releaseTuner_pgt (s : State) :
    (releaseTuner s).pgt = s.pgt := rfl

@[simp] theorem rewriteTuned_pgt (old new : Preset) (s : State) :
    (rewriteTuned old new s).1.pgt = s.pgt := by
  unfold rewriteTuned; try dsimp only
  (repeat' split) <;> simp_all

@[simp] theorem blankTuned_pgt (s : State) :
    (blankTuned s).pgt = s.pgt := by
  unfold blankTuned; try dsimp only
  (repeat' split) <;> simp_all

@[simp] theorem writePreset_pgt (p : Nat) (new : Option Preset) (s : State) :
    (writePreset p new s).1.pgt = s.pgt := by
  unfold writePreset; try dsimp only
  (repeat' split) <;> simp_all

@[simp] theorem offerCode_pgt (code : Nat) (s : State) :
    (offerCode code s).1.pgt = s.pgt := by
  unfold offerCode; try dsimp only
  (repeat' split) <;> simp_all

@[simp] theorem offerName_pgt (name : List Byte) (s : State) :
    (offerName name s).pgt = s.pgt := by
  unfold offerName; try dsimp only
  (repeat' split) <;> rfl

@[simp] theorem writeLimits_pgt (t : BandTable) (s : State) :
    (writeLimits t s).pgt = s.pgt := by
  unfold writeLimits; try dsimp only
  (repeat' split) <;> simp_all

@[simp] theorem warmTune_pgt (s : State) :
    (warmTune s).1.pgt = s.pgt := by
  unfold warmTune; try dsimp only
  (repeat' split) <;> simp_all

/-! ### Clock -/

@[simp] theorem handJump_pgt (cause : JumpCause) (old : DateTime) (s : State) :
    (handJump cause old s).1.pgt = s.pgt := rfl

@[simp] theorem advanceClock_pgt (s : State) :
    (advanceClock s).pgt = s.pgt := rfl

@[simp] theorem passSecond_pgt (s : State) :
    (passSecond s).1.pgt = s.pgt := by
  unfold passSecond; try dsimp only
  (repeat' split) <;> rfl

@[simp] theorem putClock_pgt (t : DateTime) (st : ClockState) (s : State) :
    (putClock t st s).pgt = s.pgt := rfl

@[simp] theorem setClock_pgt (t : DateTime) (s : State) :
    (setClock t s).1.pgt = s.pgt := by
  unfold setClock; try dsimp only
  (repeat' split) <;> rfl

@[simp] theorem acceptTime_pgt (n : TimeCandidate) (s : State) :
    (acceptTime n s).1.pgt = s.pgt := by
  unfold acceptTime; try dsimp only
  (repeat' split) <;> simp_all

@[simp] theorem considerPair_pgt (pending : Option TimeCandidate) (n : TimeCandidate) (s : State) :
    (considerPair pending n s).1.pgt = s.pgt := by
  unfold considerPair; try dsimp only
  (repeat' split) <;> simp_all

/-! ### DataLines -/

@[simp] theorem offerCopy_pgt (display : Bool) (p : List Byte) (s : State) :
    (offerCopy display p s).pgt = s.pgt := by
  unfold offerCopy; try dsimp only
  (repeat' split) <;> rfl

@[simp] theorem forwardLine_pgt (line : Nat) (q : LineQuality) (v : Service) (p : List Byte) (s : State) :
    (forwardLine line q v p s).pgt = s.pgt := by
  unfold forwardLine; try dsimp only
  (repeat' split) <;> simp_all

@[simp] theorem learnCode_pgt (c : Nat) (s : State) :
    (learnCode c s).1.pgt = s.pgt := by
  unfold learnCode; try dsimp only
  (repeat' split) <;> simp_all

@[simp] theorem learnName_pgt (cs : List Byte) (s : State) :
    (learnName cs s).pgt = s.pgt := by
  unfold learnName; try dsimp only
  (repeat' split) <;> simp_all

@[simp] theorem restartLoss_pgt (s : State) :
    (restartLoss s).pgt = s.pgt := by
  unfold restartLoss; try dsimp only
  (repeat' split) <;> rfl

@[simp] theorem trackLabel_pgt (c : Nat) (v : Option Label) (st : LabelStatus) (s : State) :
    (trackLabel c v st s).1.pgt = s.pgt := by
  unfold trackLabel; try dsimp only
  (repeat' split) <;> simp_all

@[simp] theorem lossExpires_pgt (s : State) :
    (lossExpires s).1.pgt = s.pgt := by
  unfold lossExpires; try dsimp only
  (repeat' split) <;> rfl

@[simp] theorem produceTime_pgt (utc : DateTime) (offset : Int) (s : State) :
    (produceTime utc offset s).1.pgt = s.pgt := by
  unfold produceTime; try dsimp only
  (repeat' split) <;> simp_all

@[simp] theorem actContent_pgt (x : LineContent) (s : State) :
    (actContent x s).1.pgt = s.pgt := by
  unfold actContent; try dsimp only
  (repeat' split) <;> simp_all

@[simp] theorem actOnLine_pgt (q : LineQuality) (v : Service) (p : List Byte) (s : State) :
    (actOnLine q v p s).1.pgt = s.pgt := by
  unfold actOnLine; try dsimp only
  (repeat' split) <;> simp_all

@[simp] theorem takeDataLine_pgt (p : List Byte) (s : State) :
    (takeDataLine p s).1.pgt = s.pgt := by
  unfold takeDataLine; try dsimp only
  (repeat' split) <;> simp_all

/-! ### Timer -/

@[simp] theorem endingStop_pgt (s : State) :
    (endingStop s).1.pgt = s.pgt := by
  unfold endingStop; try dsimp only
  (repeat' split) <;> rfl

@[simp] theorem goCheck_pgt (s : State) :
    (goCheck s).1.pgt = s.pgt := by
  unfold goCheck; try dsimp only
  (repeat' split) <;> rfl

@[simp] theorem ownTargetSet_pgt (cause : OwnCause) (s : State) :
    (ownTargetSet cause s).1.pgt = s.pgt := by
  unfold ownTargetSet; try dsimp only
  (repeat' split) <;> rfl

@[simp] theorem haltSeen_pgt (servo : Bool) (s : State) :
    (haltSeen servo s).1.pgt = s.pgt := by
  unfold haltSeen; try dsimp only
  (repeat' split) <;> rfl

@[simp] theorem eotSeen_pgt (s : State) :
    (eotSeen s).1.pgt = s.pgt := by
  unfold eotSeen; try dsimp only
  (repeat' split) <;> rfl

@[simp] theorem release_pgt (s : State) :
    (release s).1.pgt = s.pgt := by
  unfold release; try dsimp only
  (repeat' split) <;> rfl

/-! ### Lines -/

@[simp] theorem putSettled_pgt (i : Nat) (v : PinLevel) (s : State) :
    (putSettled i v s).pgt = s.pgt := rfl

@[simp] theorem inputEdge_pgt (e : LineEvent) (rise : Bool) (s : State) :
    (inputEdge e rise s).1.pgt = s.pgt := by
  unfold inputEdge; try dsimp only
  (repeat' split) <;> simp_all

@[simp] theorem lineSettles_pgt (i : Nat) (v : PinLevel) (s : State) :
    (lineSettles i v s).1.pgt = s.pgt := by
  unfold lineSettles; try dsimp only
  (repeat' split) <;> simp_all

@[simp] theorem assignLine_pgt (i : Nat) (a : Assignment) (v : PinLevel) (s : State) :
    (assignLine i a v s).pgt = s.pgt := by
  unfold assignLine; try dsimp only
  (repeat' split) <;> rfl

end Sys2Proof.Machine
end

