-- ==== Sys2Proof/Laws/FramesTau.lean ====
section
/-!
SUPPORT. Which operations leave the Tape Accounting Unit alone.
One lemma for each operation, in the order of the files that define them.
-/
set_option linter.unusedTactic false
set_option linter.unreachableTactic false
set_option linter.unnecessarySeqFocus false
namespace Sys2Proof.Machine

/-! ### Ops -/

@[simp] theorem state_passes_tau (s : State) (dt : Tick) :
    (State.passes s dt).tau = s.tau := rfl

@[simp] theorem state_reaches_tau (s : State) (due : Tick) :
    (State.reaches s due).tau = s.tau := rfl

@[simp] theorem want_tau (k : ReportKind) (s : State) :
    (want k s).tau = s.tau := rfl

@[simp] theorem latch_tau (k : Condition) (s : State) :
    (latch k s).tau = s.tau := rfl

@[simp] theorem setAlert_tau (c : Channel) (present : Bool) (s : State) :
    (setAlert c present s).tau = s.tau := rfl

@[simp] theorem raiseCondition_tau (k : Condition) (tripped : Bool) (s : State) :
    (raiseCondition k tripped s).1.tau = s.tau := rfl

@[simp] theorem state_withMotor_tau (s : State) (c : Channel) (x : Motor) :
    (State.withMotor s c x).tau = s.tau := rfl

@[simp] theorem stage_tau (c : Channel) (d : Drive) (s : State) :
    (stage c d s).tau = s.tau := by
  unfold stage; try dsimp only
  (repeat' split) <;> rfl

@[simp] theorem stopMotor_tau (c : Channel) (s : State) :
    (stopMotor c s).tau = s.tau := rfl

@[simp] theorem stopAllMotors_tau (s : State) :
    (stopAllMotors s).tau = s.tau := rfl

/-! ### Motors -/

@[simp] theorem formOutputs_tau (s : State) :
    (formOutputs s).tau = s.tau := rfl

@[simp] theorem sampleSupply_tau (v : Nat) (s : State) :
    (sampleSupply v s).1.tau = s.tau := rfl

@[simp] theorem startPeriod_tau (v : Nat) (s : State) :
    (startPeriod v s).1.tau = s.tau := rfl

@[simp] theorem tripMotor_tau (c : Channel) (s : State) :
    (tripMotor c s).1.tau = s.tau := by
  unfold tripMotor; try dsimp only
  (repeat' split) <;> rfl

@[simp] theorem endRecovery_tau (c : Channel) (s : State) :
    (endRecovery c s).tau = s.tau := by
  unfold endRecovery; try dsimp only
  (repeat' split) <;> rfl

@[simp] theorem releaseMotors_tau (s : State) :
    (releaseMotors s).1.tau = s.tau := rfl

/-! ### Tape -/

@[simp] theorem restageWind_tau (s : State) :
    (restageWind s).tau = s.tau := by
  unfold restageWind; try dsimp only
  (repeat' split) <;> simp_all

/-! ### Servos -/

@[simp] theorem demandDrum_tau (t : DrumTarget) (s : State) :
    (demandDrum t s).tau = s.tau := by
  unfold demandDrum; try dsimp only
  (repeat' split) <;> simp_all

@[simp] theorem demandCap_tau (t : CapTarget) (s : State) :
    (demandCap t s).tau = s.tau := by
  unfold demandCap; try dsimp only
  (repeat' split) <;> simp_all

@[simp] theorem applyDrum_tau (s : State) :
    (applyDrum s).tau = s.tau := by
  unfold applyDrum; try dsimp only
  (repeat' split) <;> simp_all

@[simp] theorem applyCap_tau (s : State) :
    (applyCap s).tau = s.tau := by
  unfold applyCap; try dsimp only
  (repeat' split) <;> simp_all

@[simp] theorem measureDrum_tau (m : Nat) (s : State) :
    (measureDrum m s).tau = s.tau := by simp [measureDrum]

@[simp] theorem measureCap_tau (period m : Nat) (s : State) :
    (measureCap period m s).tau = s.tau := by simp [measureCap]

@[simp] theorem phaseDrum_tau (s : State) :
    (phaseDrum s).tau = s.tau := rfl

@[simp] theorem phaseCap_tau (s : State) :
    (phaseCap s).tau = s.tau := rfl

@[simp] theorem drumPulse_tau (s : State) :
    (drumPulse s).1.tau = s.tau := by
  unfold drumPulse; try dsimp only
  (repeat' split) <;> simp_all

@[simp] theorem capstanPulse_tau (s : State) :
    (capstanPulse s).1.tau = s.tau := by
  unfold capstanPulse; try dsimp only
  (repeat' split) <;> simp_all

@[simp] theorem missingPulse_tau (l : Loop) (s : State) :
    (missingPulse l s).1.tau = s.tau := by
  unfold missingPulse; try dsimp only
  (repeat' split) <;> simp_all

@[simp] theorem beginIdent_tau (s : State) :
    (beginIdent s).tau = s.tau := rfl

@[simp] theorem leavePlay_tau (s : State) :
    (leavePlay s).tau = s.tau := rfl

/-! ### Recording -/

@[simp] theorem gateOn_tau (s : State) :
    (gateOn s).tau = s.tau := by
  unfold gateOn; try dsimp only
  (repeat' split) <;> rfl

@[simp] theorem giveHeldSpeed_tau (s : State) :
    (giveHeldSpeed s).tau = s.tau := by
  unfold giveHeldSpeed; try dsimp only
  (repeat' split) <;> rfl

/-! ### Transport -/

@[simp] theorem demandState_tau (old new : TState) (s : State) :
    (demandState old new s).tau = s.tau := by simp [demandState]

@[simp] theorem setState_tau (new : TState) (s : State) :
    (setState new s).tau = s.tau := rfl

@[simp] theorem setGoal_tau (g : Goal) (s : State) :
    (setGoal g s).tau = s.tau := by
  unfold setGoal; try dsimp only
  (repeat' split) <;> simp_all

@[simp] theorem takeSpeed_tau (q : TransportRequest) (s : State) :
    (takeSpeed q s).tau = s.tau := by
  unfold takeSpeed; try dsimp only
  (repeat' split) <;> rfl

@[simp] theorem restartLimits_tau (s : State) :
    (restartLimits s).tau = s.tau := rfl

@[simp] theorem lineRequest_tau (t : Target) (s : State) :
    (lineRequest t s).1.tau = s.tau := by
  unfold lineRequest; try dsimp only
  (repeat' split) <;> rfl

@[simp] theorem beginLockWait_tau (s : State) :
    (beginLockWait s).1.tau = s.tau := rfl

@[simp] theorem stopMove_tau (s : State) :
    (stopMove s).tau = s.tau := by simp [stopMove]

@[simp] theorem lockWaitExpires_tau (s : State) :
    (lockWaitExpires s).1.tau = s.tau := by
  unfold lockWaitExpires; try dsimp only
  (repeat' split) <;> rfl

@[simp] theorem lockWaitOver_tau (s : State) :
    (lockWaitOver s).1.tau = s.tau := by
  unfold lockWaitOver; try dsimp only
  (repeat' split) <;> rfl

@[simp] theorem recordLockExpires_tau (s : State) :
    (recordLockExpires s).1.tau = s.tau := by
  unfold recordLockExpires; try dsimp only
  (repeat' split) <;> rfl

@[simp] theorem lockWatchOver_tau (s : State) :
    (lockWatchOver s).1.tau = s.tau := by
  unfold lockWatchOver; try dsimp only
  (repeat' split) <;> rfl

@[simp] theorem ejectFails_tau (s : State) :
    (ejectFails s).tau = s.tau := rfl

@[simp] theorem moveTimesOut_tau (s : State) :
    (moveTimesOut s).1.tau = s.tau := by
  unfold moveTimesOut; try dsimp only
  (repeat' split) <;> rfl

@[simp] theorem retryDecays_tau (s : State) :
    (retryDecays s).tau = s.tau := by
  unfold retryDecays; try dsimp only
  (repeat' split) <;> rfl

@[simp] theorem restartStall_tau (r : Reel) (s : State) :
    (restartStall r s).tau = s.tau := by
  unfold restartStall; try dsimp only
  (repeat' split) <;> rfl

@[simp] theorem stallExpires_tau (s : State) :
    (stallExpires s).1.tau = s.tau := by
  unfold stallExpires; try dsimp only
  (repeat' split) <;> rfl

@[simp] theorem idleExpires_tau (s : State) :
    (idleExpires s).1.tau = s.tau := by
  unfold idleExpires; try dsimp only
  (repeat' split) <;> rfl

@[simp] theorem pauseExpires_tau (s : State) :
    (pauseExpires s).1.tau = s.tau := by
  unfold pauseExpires; try dsimp only
  (repeat' split) <;> rfl

@[simp] theorem ownerChanged_tau (s : State) :
    (ownerChanged s).tau = s.tau := by
  unfold ownerChanged; try dsimp only
  (repeat' split) <;> rfl

/-! ### Tuner -/

@[simp] theorem putPreset_tau (p : Nat) (x : Option Preset) (s : State) :
    (putPreset p x s).tau = s.tau := rfl

@[simp] theorem beginWord_tau (w : SynthWord) (s : State) :
    (beginWord w s).tau = s.tau := rfl

@[simp] theorem sendWord_tau (s : State) :
    (sendWord s).tau = s.tau := by
  unfold sendWord; try dsimp only
  (repeat' split) <;> rfl

@[simp] theorem wordEnds_tau (s : State) :
    (wordEnds s).tau = s.tau := by
  unfold wordEnds; try dsimp only
  (repeat' split) <;> simp_all

@[simp] theorem resetTracker_tau (s : State) :
    (resetTracker s).1.tau = s.tau := by
  unfold resetTracker; try dsimp only
  (repeat' split) <;> rfl

@[simp] theorem dropTracker_tau (s : State) :
    (dropTracker s).1.tau = s.tau := by
  unfold dropTracker resetTracker; try dsimp only
  (repeat' split) <;> rfl

@[simp] theorem clearLearning_tau (s : State) :
    (clearLearning s).tau = s.tau := rfl

@[simp] theorem discardCandidate_tau (s : State) :
    (discardCandidate s).tau = s.tau := rfl

@[simp] theorem retuneData_tau (s : State) :
    (retuneData s).1.tau = s.tau := by simp [retuneData]

@[simp] theorem expectCode_tau (e : Nat) (s : State) :
    (expectCode e s).1.tau = s.tau := by
  unfold expectCode; try dsimp only
  (repeat' split) <;> simp_all

@[simp] theorem codeChanged_tau (new : Option Nat) (s : State) :
    (codeChanged new s).1.tau = s.tau := by
  unfold codeChanged; try dsimp only
  (repeat' split) <;> simp_all

@[simp] theorem tuningChange_tau (src : TunedSource) (base fine : Int) (s : State) :
    (tuningChange src base fine s).1.tau = s.tau := by simp [tuningChange]

@[simp] theorem settle_tau (s : State) :
    (settle s).tau = s.tau := rfl

@[simp] theorem settleOn_tau (src : TunedSource) (base fine : Int) (s : State) :
    (settleOn src base fine s).1.tau = s.tau := by simp [settleOn]

@[simp] theorem retunePreset_tau (p : Nat) (s : State) :
    (retunePreset p s).1.tau = s.tau := by
  unfold retunePreset; try dsimp only
  (repeat' split) <;> simp_all

@[simp] theorem tunePresetNow_tau (p : Nat) (s : State) :
    (tunePresetNow p s).1.tau = s.tau := by simp [tunePresetNow]

@[simp] theorem tuneTo_tau (p : Nat) (s : State) :
    (tuneTo p s).1.tau = s.tau := by
  unfold tuneTo; try dsimp only
  (repeat' split) <;> simp_all

@[simp] theorem settled_tau (s : State) :
    (settled s).tau = s.tau := by
  unfold settled; try dsimp only
  (repeat' split) <;> rfl

@[simp] theorem goIdle_tau (s : State) :
    (goIdle s).1.tau = s.tau := by simp [goIdle]

@[simp] theorem setFine_tau (v : Int) (s : State) :
    (setFine v s).tau = s.tau := by simp [setFine]

@[simp] theorem fineTuneTo_tau (v : Int) (s : State) :
    (fineTuneTo v s).tau = s.tau := by
  unfold fineTuneTo; try dsimp only
  (repeat' split) <;> simp_all

@[simp] theorem afcRead_tau (step : Int) (s : State) :
    (afcRead step s).tau = s.tau := by
  unfold afcRead; try dsimp only
  (repeat' split) <;> simp_all

@[simp] theorem afcExpires_tau (low high : Bool) (s : State) :
    (afcExpires low high s).tau = s.tau := by
  unfold afcExpires; try dsimp only
  (repeat' split) <;> simp_all

@[simp] theorem testDivider_tau (n : Int) (s : State) :
    (testDivider n s).1.tau = s.tau := by simp [testDivider]

@[simp] theorem cancelScan_tau (s : State) :
    (cancelScan s).tau = s.tau := by
  unfold cancelScan; try dsimp only
  (repeat' split) <;> rfl

@[simp] theorem enterScan_tau (st : TunerState) (up : Bool) (start : Int) (wrapped : Bool) (s : State) :
    (enterScan st up start wrapped s).tau = s.tau := rfl

@[simp] theorem beginSearch_tau (up : Bool) (s : State) :
    (beginSearch up s).1.tau = s.tau := by simp [beginSearch]

@[simp] theorem beginInstall_tau (p : Nat) (s : State) :
    (beginInstall p s).1.tau = s.tau := by simp [beginInstall]

@[simp] theorem returnToHeld_tau (s : State) :
    (returnToHeld s).1.tau = s.tau := by
  unfold returnToHeld; try dsimp only
  (repeat' split) <;> simp_all

@[simp] theorem searchFails_tau (s : State) :
    (searchFails s).1.tau = s.tau := by simp [searchFails]

@[simp] theorem installEnds_tau (s : State) :
    (installEnds s).1.tau = s.tau := by
  unfold installEnds; try dsimp only
  (repeat' split) <;> simp_all

@[simp] theorem nextStride_tau (stride : Nat) (s : State) :
    (nextStride stride s).1.tau = s.tau := by
  unfold nextStride; try dsimp only
  (repeat' split) <;> simp_all

@[simp] theorem sampleSync_tau (present : Bool) (s : State) :
    (sampleSync present s).1.tau = s.tau := by
  unfold sampleSync; try dsimp only
  (repeat' split) <;> simp_all

@[simp] theorem stationFound_tau (n : Int) (s : State) :
    (stationFound n s).1.tau = s.tau := by
  unfold stationFound; try dsimp only
  (repeat' split) <;> simp_all

@[simp] theorem fineStepTo_tau (n : Int) (s : State) :
    (fineStepTo n s).1.tau = s.tau := by simp [fineStepTo]

@[simp] theorem readFineStep_tau (low high : Bool) (s : State) :
    (readFineStep low high s).1.tau = s.tau := by
  unfold readFineStep; try dsimp only
  (repeat' split) <;> simp_all

@[simp] theorem storeCandidate_tau (x : Preset) (s : State) :
    (storeCandidate x s).tau = s.tau := rfl

@[simp] theorem dwellExpires_tau (s : State) :
    (dwellExpires s).1.tau = s.tau := by
  unfold dwellExpires; try dsimp only
  (repeat' split) <;> simp_all

@[simp] theorem grantTuner_tau (src : Source) (s : State) :
    (grantTuner src s).1.tau = s.tau := by
  unfold grantTuner; try dsimp only
  (repeat' split) <;> simp_all

@[simp] theorem releaseTuner_tau (s : State) :
    (releaseTuner s).tau = s.tau := rfl

@[simp] theorem rewriteTuned_tau (old new : Preset) (s : State) :
    (rewriteTuned old new s).1.tau = s.tau := by
  unfold rewriteTuned; try dsimp only
  (repeat' split) <;> simp_all

@[simp] theorem blankTuned_tau (s : State) :
    (blankTuned s).tau = s.tau := by
  unfold blankTuned; try dsimp only
  (repeat' split) <;> simp_all

@[simp] theorem writePreset_tau (p : Nat) (new : Option Preset) (s : State) :
    (writePreset p new s).1.tau = s.tau := by
  unfold writePreset; try dsimp only
  (repeat' split) <;> simp_all

@[simp] theorem offerCode_tau (code : Nat) (s : State) :
    (offerCode code s).1.tau = s.tau := by
  unfold offerCode; try dsimp only
  (repeat' split) <;> simp_all

@[simp] theorem offerName_tau (name : List Byte) (s : State) :
    (offerName name s).tau = s.tau := by
  unfold offerName; try dsimp only
  (repeat' split) <;> rfl

@[simp] theorem writeLimits_tau (t : BandTable) (s : State) :
    (writeLimits t s).tau = s.tau := by
  unfold writeLimits; try dsimp only
  (repeat' split) <;> simp_all

@[simp] theorem warmTune_tau (s : State) :
    (warmTune s).1.tau = s.tau := by
  unfold warmTune; try dsimp only
  (repeat' split) <;> simp_all

/-! ### Clock -/

@[simp] theorem handJump_tau (cause : JumpCause) (old : DateTime) (s : State) :
    (handJump cause old s).1.tau = s.tau := rfl

@[simp] theorem advanceClock_tau (s : State) :
    (advanceClock s).tau = s.tau := rfl

@[simp] theorem passSecond_tau (s : State) :
    (passSecond s).1.tau = s.tau := by
  unfold passSecond; try dsimp only
  (repeat' split) <;> rfl

@[simp] theorem putClock_tau (t : DateTime) (st : ClockState) (s : State) :
    (putClock t st s).tau = s.tau := rfl

@[simp] theorem setClock_tau (t : DateTime) (s : State) :
    (setClock t s).1.tau = s.tau := by
  unfold setClock; try dsimp only
  (repeat' split) <;> rfl

@[simp] theorem acceptTime_tau (n : TimeCandidate) (s : State) :
    (acceptTime n s).1.tau = s.tau := by
  unfold acceptTime; try dsimp only
  (repeat' split) <;> simp_all

@[simp] theorem considerPair_tau (pending : Option TimeCandidate) (n : TimeCandidate) (s : State) :
    (considerPair pending n s).1.tau = s.tau := by
  unfold considerPair; try dsimp only
  (repeat' split) <;> simp_all

/-! ### DataLines -/

@[simp] theorem offerCopy_tau (display : Bool) (p : List Byte) (s : State) :
    (offerCopy display p s).tau = s.tau := by
  unfold offerCopy; try dsimp only
  (repeat' split) <;> rfl

@[simp] theorem forwardLine_tau (line : Nat) (q : LineQuality) (v : Service) (p : List Byte) (s : State) :
    (forwardLine line q v p s).tau = s.tau := by
  unfold forwardLine; try dsimp only
  (repeat' split) <;> simp_all

@[simp] theorem learnCode_tau (c : Nat) (s : State) :
    (learnCode c s).1.tau = s.tau := by
  unfold learnCode; try dsimp only
  (repeat' split) <;> simp_all

@[simp] theorem learnName_tau (cs : List Byte) (s : State) :
    (learnName cs s).tau = s.tau := by
  unfold learnName; try dsimp only
  (repeat' split) <;> simp_all

@[simp] theorem restartLoss_tau (s : State) :
    (restartLoss s).tau = s.tau := by
  unfold restartLoss; try dsimp only
  (repeat' split) <;> rfl

@[simp] theorem trackLabel_tau (c : Nat) (v : Option Label) (st : LabelStatus) (s : State) :
    (trackLabel c v st s).1.tau = s.tau := by
  unfold trackLabel; try dsimp only
  (repeat' split) <;> simp_all

@[simp] theorem lossExpires_tau (s : State) :
    (lossExpires s).1.tau = s.tau := by
  unfold lossExpires; try dsimp only
  (repeat' split) <;> rfl

@[simp] theorem produceTime_tau (utc : DateTime) (offset : Int) (s : State) :
    (produceTime utc offset s).1.tau = s.tau := by
  unfold produceTime; try dsimp only
  (repeat' split) <;> simp_all

@[simp] theorem actContent_tau (x : LineContent) (s : State) :
    (actContent x s).1.tau = s.tau := by
  unfold actContent; try dsimp only
  (repeat' split) <;> simp_all

@[simp] theorem actOnLine_tau (q : LineQuality) (v : Service) (p : List Byte) (s : State) :
    (actOnLine q v p s).1.tau = s.tau := by
  unfold actOnLine; try dsimp only
  (repeat' split) <;> simp_all

@[simp] theorem takeDataLine_tau (p : List Byte) (s : State) :
    (takeDataLine p s).1.tau = s.tau := by
  unfold takeDataLine; try dsimp only
  (repeat' split) <;> simp_all

/-! ### Timer -/

@[simp] theorem slotChanged_tau (slot : Nat) (s : State) :
    (slotChanged slot s).tau = s.tau := rfl

@[simp] theorem putRec_tau (slot : Nat) (r : TimerRecord) (s : State) :
    (putRec slot r s).tau = s.tau := by
  unfold putRec; try dsimp only
  (repeat' split) <;> rfl

@[simp] theorem setClaim_tau (c : Option Nat) (s : State) :
    (setClaim c s).tau = s.tau := rfl

@[simp] theorem endIdle_tau (slot : Nat) (res : ResultCode) (s : State) :
    (endIdle slot res s).tau = s.tau := by simp [endIdle]

@[simp] theorem endRec_tau (slot : Nat) (res : ResultCode) (ask serve : Bool) (s : State) :
    (endRec slot res ask serve s).1.tau = s.tau := by simp [endRec]

@[simp] theorem endingStop_tau (s : State) :
    (endingStop s).1.tau = s.tau := by
  unfold endingStop; try dsimp only
  (repeat' split) <;> rfl

@[simp] theorem freeClaim_tau (serve : Bool) (s : State) :
    (freeClaim serve s).1.tau = s.tau := rfl

@[simp] theorem finishRec_tau (slot : Nat) (s : State) :
    (finishRec slot s).tau = s.tau := by
  unfold finishRec; try dsimp only
  (repeat' split) <;> simp_all

@[simp] theorem conflictSlot_tau (s : State) (slot : Nat) :
    (conflictSlot s slot).tau = s.tau := by
  unfold conflictSlot; try dsimp only
  (repeat' split) <;> simp_all

@[simp] theorem serveFirst_tau : ∀ (ns : List Nat) (s : State), (serveFirst ns s).1.tau = s.tau
  | [], _ => rfl
  | n :: ns, s => by
      unfold serveFirst
      split
      · exact (serveFirst_tau ns _).trans (endIdle_tau n _ s)
      · rfl

@[simp] theorem conflictSlots_tau (ns : List Nat) (s : State) :
    (ns.foldl conflictSlot s).tau = s.tau :=
  foldl_keeps State.tau conflictSlot (fun s a => conflictSlot_tau s a) ns s

@[simp] theorem serveDeferred_tau (s : State) : (serveDeferred s).1.tau = s.tau := by
  unfold serveDeferred; try dsimp only
  split <;> simp

@[simp] theorem grantClaim_tau (slot : Nat) (s : State) :
    (grantClaim slot s).1.tau = s.tau := by simp [grantClaim]

@[simp] theorem enterStarting_tau (slot : Nat) (ph : Phase) (s : State) :
    (enterStarting slot ph s).tau = s.tau := by simp [enterStarting]

@[simp] theorem startClock_tau (slot : Nat) (s : State) :
    (startClock slot s).1.tau = s.tau := by
  unfold startClock; try dsimp only
  (repeat' split) <;> simp_all

@[simp] theorem goCheck_tau (s : State) :
    (goCheck s).1.tau = s.tau := by
  unfold goCheck; try dsimp only
  (repeat' split) <;> rfl

@[simp] theorem toWatching_tau (slot : Nat) (s : State) :
    (toWatching slot s).tau = s.tau := by
  unfold toWatching; try dsimp only
  (repeat' split) <;> simp_all

@[simp] theorem timerRequest_tau (t : Target) (s : State) :
    (timerRequest t s).1.tau = s.tau := by
  unfold timerRequest; try dsimp only
  (repeat' split) <;> rfl

@[simp] theorem requestRefused_tau (t : Target) (why : Reason) (s : State) :
    (requestRefused t why s).1.tau = s.tau := by
  unfold requestRefused; try dsimp only
  (repeat' split) <;> rfl

@[simp] theorem labelWatching_tau (n : Nat) (r : TimerRecord) (v : Option Label) (st : LabelStatus) (s : State) :
    (labelWatching n r v st s).1.tau = s.tau := by
  unfold labelWatching; try dsimp only
  (repeat' split) <;> simp_all

@[simp] theorem labelStarting_tau (n : Nat) (r : TimerRecord) (v : Option Label) (st : LabelStatus) (s : State) :
    (labelStarting n r v st s).1.tau = s.tau := by
  unfold labelStarting; try dsimp only
  (repeat' split) <;> simp_all

@[simp] theorem labelRecording_tau (n : Nat) (r : TimerRecord) (v : Option Label) (st : LabelStatus) (s : State) :
    (labelRecording n r v st s).1.tau = s.tau := by
  unfold labelRecording; try dsimp only
  (repeat' split) <;> simp_all

@[simp] theorem labelLoss_tau (n : Nat) (r : TimerRecord) (s : State) :
    (labelLoss n r s).1.tau = s.tau := by
  unfold labelLoss; try dsimp only
  (repeat' split) <;> simp_all

@[simp] theorem labelEvent_tau (t : Tracker) (s : State) :
    (labelEvent t s).1.tau = s.tau := by
  unfold labelEvent; try dsimp only
  (repeat' split) <;> simp_all

@[simp] theorem recordEntered_tau (opened : Option Bool) (n : Nat) (r : TimerRecord) (s : State) :
    (recordEntered opened n r s).tau = s.tau := by
  unfold recordEntered; try dsimp only
  (repeat' split) <;> simp_all

@[simp] theorem pauseEntered_tau (n : Nat) (r : TimerRecord) (s : State) :
    (pauseEntered n r s).1.tau = s.tau := by
  unfold pauseEntered; try dsimp only
  (repeat' split) <;> simp_all

@[simp] theorem transportChanged_tau (new : TState) (opened : Option Bool) (s : State) :
    (transportChanged new opened s).1.tau = s.tau := by
  unfold transportChanged; try dsimp only
  (repeat' split) <;> simp_all

@[simp] theorem ownTargetSet_tau (cause : OwnCause) (s : State) :
    (ownTargetSet cause s).1.tau = s.tau := by
  unfold ownTargetSet; try dsimp only
  (repeat' split) <;> rfl

@[simp] theorem haltSeen_tau (servo : Bool) (s : State) :
    (haltSeen servo s).1.tau = s.tau := by
  unfold haltSeen; try dsimp only
  (repeat' split) <;> rfl

@[simp] theorem eotSeen_tau (s : State) :
    (eotSeen s).1.tau = s.tau := by
  unfold eotSeen; try dsimp only
  (repeat' split) <;> rfl

@[simp] theorem servoUnlocked_tau (s : State) :
    (servoUnlocked s).tau = s.tau := by
  unfold servoUnlocked; try dsimp only
  (repeat' split) <;> simp_all

@[simp] theorem lockWatched_tau (s : State) :
    (lockWatched s).tau = s.tau := by
  unfold lockWatched; try dsimp only
  (repeat' split) <;> simp_all

@[simp] theorem leftUnindexed_tau (s : State) :
    (leftUnindexed s).tau = s.tau := by
  unfold leftUnindexed; try dsimp only
  (repeat' split) <;> simp_all

@[simp] theorem countSecond_tau (s : State) :
    (countSecond s).1.tau = s.tau := by
  unfold countSecond; try dsimp only
  (repeat' split) <;> simp_all

@[simp] theorem fallBack_tau (n : Nat) (r : TimerRecord) (s : State) :
    (fallBack n r s).1.tau = s.tau := by
  unfold fallBack; try dsimp only
  (repeat' split) <;> simp_all

@[simp] theorem startReached_tau (n : Nat) (r : TimerRecord) (s : State) :
    (startReached n r s).1.tau = s.tau := by
  unfold startReached; try dsimp only
  (repeat' split) <;> simp_all

@[simp] theorem holderMoments_tau (late expired : ResultCode) (n : Nat) (r : TimerRecord) (s : State) :
    (holderMoments late expired n r s).1.tau = s.tau := by
  unfold holderMoments; try dsimp only
  (repeat' split) <;> simp_all

@[simp] theorem secondMoments_tau (s : State) :
    (secondMoments s).1.tau = s.tau := by
  unfold secondMoments; try dsimp only
  (repeat' split) <;> simp_all

@[simp] theorem deferRec_tau (slot : Nat) (s : State) :
    (deferRec slot s).tau = s.tau := by simp [deferRec]

@[simp] theorem serveTrigger_tau (slot : Nat) (s : State) :
    (serveTrigger slot s).1.tau = s.tau := by
  unfold serveTrigger; try dsimp only
  (repeat' split) <;> simp_all

@[simp] theorem slotTrigger_tau (slot : Nat) (s : State) :
    (slotTrigger slot s).1.tau = s.tau := by
  unfold slotTrigger; try dsimp only
  (repeat' split) <;> simp_all

@[simp] theorem jumpHolder_tau (s : State) :
    (jumpHolder s).1.tau = s.tau := by
  unfold jumpHolder; try dsimp only
  (repeat' split) <;> simp_all

@[simp] theorem jumpOther_tau (slot : Nat) (s : State) :
    (jumpOther slot s).1.tau = s.tau := by
  unfold jumpOther; try dsimp only
  (repeat' split) <;> simp_all

@[simp] theorem engage_tau (s : State) :
    (engage s).tau = s.tau := by
  unfold engage; try dsimp only
  (repeat' split) <;> simp_all

@[simp] theorem release_tau (s : State) :
    (release s).1.tau = s.tau := by
  unfold release; try dsimp only
  (repeat' split) <;> rfl

@[simp] theorem missDeferred_tau (s : State) (slot : Nat) :
    (missDeferred s slot).tau = s.tau := by
  unfold missDeferred; try dsimp only
  (repeat' split) <;> simp_all

@[simp] theorem missDeferreds_tau (ns : List Nat) (s : State) :
    (ns.foldl missDeferred s).tau = s.tau :=
  foldl_keeps State.tau missDeferred (fun s a => missDeferred_tau s a) ns s

@[simp] theorem disengage_tau (s : State) : (disengage s).tau = s.tau := by
  unfold disengage; try dsimp only
  simp

@[simp] theorem powerFailSlot_tau (s : State) (slot : Nat) :
    (powerFailSlot s slot).tau = s.tau := by
  unfold powerFailSlot; try dsimp only
  (repeat' split) <;> simp_all

@[simp] theorem powerFailSlots_tau (ns : List Nat) (s : State) :
    (ns.foldl powerFailSlot s).tau = s.tau :=
  foldl_keeps State.tau powerFailSlot (fun s a => powerFailSlot_tau s a) ns s

@[simp] theorem powerFailTimer_tau (s : State) : (powerFailTimer s).tau = s.tau := by
  unfold powerFailTimer; simp

@[simp] theorem resetDeckTimer_tau (s : State) :
    (resetDeckTimer s).tau = s.tau := by
  unfold resetDeckTimer; try dsimp only
  (repeat' split) <;> simp_all

@[simp] theorem catchUpSlot_tau (s : State) (slot : Nat) :
    (catchUpSlot s slot).tau = s.tau := by
  unfold catchUpSlot; try dsimp only
  (repeat' split) <;> simp_all

@[simp] theorem catchUpSlots_tau (ns : List Nat) (s : State) :
    (ns.foldl catchUpSlot s).tau = s.tau :=
  foldl_keeps State.tau catchUpSlot (fun s a => catchUpSlot_tau s a) ns s

@[simp] theorem catchUp_tau (s : State) : (catchUp s).1.tau = s.tau := by
  unfold catchUp; try dsimp only
  split <;> simp

/-! ### Lines -/

@[simp] theorem putSettled_tau (i : Nat) (v : PinLevel) (s : State) :
    (putSettled i v s).tau = s.tau := rfl

@[simp] theorem assignLine_tau (i : Nat) (a : Assignment) (v : PinLevel) (s : State) :
    (assignLine i a v s).tau = s.tau := by
  unfold assignLine; try dsimp only
  (repeat' split) <;> rfl

end Sys2Proof.Machine
end

