-- ==== Sys2Proof/Laws/FramesTc.lean ====
section
/-!
SUPPORT. Which operations leave the Transport Controller alone.
One lemma for each operation, in the order of the files that define them.
-/
set_option linter.unusedTactic false
set_option linter.unreachableTactic false
set_option linter.unnecessarySeqFocus false
namespace Sys2Proof.Machine

/-! ### Ops -/

@[simp] theorem state_passes_tc (s : State) (dt : Tick) :
    (State.passes s dt).tc = s.tc := rfl

@[simp] theorem state_reaches_tc (s : State) (due : Tick) :
    (State.reaches s due).tc = s.tc := rfl

@[simp] theorem want_tc (k : ReportKind) (s : State) :
    (want k s).tc = s.tc := rfl

@[simp] theorem latch_tc (k : Condition) (s : State) :
    (latch k s).tc = s.tc := rfl

@[simp] theorem setAlert_tc (c : Channel) (present : Bool) (s : State) :
    (setAlert c present s).tc = s.tc := rfl

@[simp] theorem raiseCondition_tc (k : Condition) (tripped : Bool) (s : State) :
    (raiseCondition k tripped s).1.tc = s.tc := rfl

@[simp] theorem state_withMotor_tc (s : State) (c : Channel) (x : Motor) :
    (State.withMotor s c x).tc = s.tc := rfl

@[simp] theorem stage_tc (c : Channel) (d : Drive) (s : State) :
    (stage c d s).tc = s.tc := by
  unfold stage; try dsimp only
  (repeat' split) <;> rfl

@[simp] theorem stopMotor_tc (c : Channel) (s : State) :
    (stopMotor c s).tc = s.tc := rfl

@[simp] theorem stopAllMotors_tc (s : State) :
    (stopAllMotors s).tc = s.tc := rfl

/-! ### Motors -/

@[simp] theorem formOutputs_tc (s : State) :
    (formOutputs s).tc = s.tc := rfl

@[simp] theorem sampleSupply_tc (v : Nat) (s : State) :
    (sampleSupply v s).1.tc = s.tc := rfl

@[simp] theorem startPeriod_tc (v : Nat) (s : State) :
    (startPeriod v s).1.tc = s.tc := rfl

@[simp] theorem tripMotor_tc (c : Channel) (s : State) :
    (tripMotor c s).1.tc = s.tc := by
  unfold tripMotor; try dsimp only
  (repeat' split) <;> rfl

@[simp] theorem endRecovery_tc (c : Channel) (s : State) :
    (endRecovery c s).tc = s.tc := by
  unfold endRecovery; try dsimp only
  (repeat' split) <;> rfl

@[simp] theorem releaseMotors_tc (s : State) :
    (releaseMotors s).1.tc = s.tc := rfl

/-! ### Directory -/

@[simp] theorem enterRecording_tc (s : State) :
    (enterRecording s).1.tc = s.tc := by
  unfold enterRecording; try dsimp only
  (repeat' split) <;> rfl

@[simp] theorem enterFound_tc (p : Nat) (s : State) :
    (enterFound p s).tc = s.tc := by
  unfold enterFound; try dsimp only
  (repeat' split) <;> rfl

/-! ### Tape -/

@[simp] theorem restageWind_tc (s : State) :
    (restageWind s).tc = s.tc := by
  unfold restageWind; try dsimp only
  (repeat' split) <;> simp_all

@[simp] theorem refreshZone_tc (s : State) :
    (refreshZone s).tc = s.tc := by
  unfold refreshZone; try dsimp only
  (repeat' split) <;> simp_all

@[simp] theorem refreshEndWarning_tc (s : State) :
    (refreshEndWarning s).tc = s.tc := by
  unfold refreshEndWarning; try dsimp only
  (repeat' split) <;> rfl

@[simp] theorem refreshTape_tc (s : State) :
    (refreshTape s).tc = s.tc := by simp [refreshTape]

@[simp] theorem onRecord_tc (f : Cassette → Cassette) (s : State) :
    (onRecord f s).tc = s.tc := rfl

@[simp] theorem endSeek_tc (r : SeekState) (s : State) :
    (endSeek r s).tc = s.tc := by
  unfold endSeek; try dsimp only
  (repeat' split) <;> rfl

@[simp] theorem discardRecord_tc (s : State) :
    (discardRecord s).tc = s.tc := by simp [discardRecord]

@[simp] theorem freshRecord_tc (s : State) :
    (freshRecord s).tc = s.tc := by
  unfold freshRecord; try dsimp only
  (repeat' split) <;> simp_all

@[simp] theorem setTab_tc (present : Bool) (s : State) :
    (setTab present s).tc = s.tc := rfl

@[simp] theorem setTapeSpeed_tc (v : Option Speed) (s : State) :
    (setTapeSpeed v s).tc = s.tc := rfl

@[simp] theorem setWarnSpeed_tc (v : Speed) (s : State) :
    (setWarnSpeed v s).tc = s.tc := by simp [setWarnSpeed]

@[simp] theorem setPosition_tc (p : Nat) (q : PosQuality) (s : State) :
    (setPosition p q s).tc = s.tc := by simp [setPosition]

@[simp] theorem dropPosition_tc (s : State) :
    (dropPosition s).tc = s.tc := by simp [dropPosition]

@[simp] theorem clampPosition_tc (total : Nat) (s : State) :
    (clampPosition total s).1.tc = s.tc := by
  unfold clampPosition; try dsimp only
  (repeat' split) <;> rfl

@[simp] theorem classify_tc (s : State) :
    (classify s).1.tc = s.tc := by
  unfold classify; try dsimp only
  (repeat' split) <;> simp_all

@[simp] theorem declassify_tc (s : State) :
    (declassify s).tc = s.tc := by
  unfold declassify; try dsimp only
  (repeat' split) <;> simp_all

@[simp] theorem gatherSample_tc (x : Nat) (s : State) :
    (gatherSample x s).1.tc = s.tc := by
  unfold gatherSample; try dsimp only
  (repeat' split) <;> simp_all

@[simp] theorem watchSample_tc (e : CassEntry) (x : Nat) (s : State) :
    (watchSample e x s).tc = s.tc := by
  unfold watchSample; try dsimp only
  (repeat' split) <;> simp_all

@[simp] theorem takeSample_tc (s : State) :
    (takeSample s).1.tc = s.tc := by
  unfold takeSample; try dsimp only
  (repeat' split) <;> simp_all

@[simp] theorem estimatedFix_tc (s : State) :
    (estimatedFix s).tc = s.tc := by
  unfold estimatedFix; try dsimp only
  (repeat' split) <;> simp_all

@[simp] theorem withRev_tc (r : Reel) (m : RevMeas) (s : State) :
    (withRev r m s).tc = s.tc := by
  unfold withRev; try dsimp only
  (repeat' split) <;> rfl

@[simp] theorem driveRevolution_tc (r : Reel) (c : Nat) (s : State) :
    (driveRevolution r c s).1.tc = s.tc := by
  unfold driveRevolution; try dsimp only
  (repeat' split) <;> simp_all

@[simp] theorem windEstimate_tc (s : State) :
    (windEstimate s).tc = s.tc := by
  unfold windEstimate; try dsimp only
  (repeat' split) <;> simp_all

@[simp] theorem windRevolution_tc (r : Reel) (began : Tick) (s : State) :
    (windRevolution r began s).tc = s.tc := by
  unfold windRevolution; try dsimp only
  (repeat' split) <;> simp_all

@[simp] theorem windUnmeasured_tc (s : State) :
    (windUnmeasured s).tc = s.tc := by
  unfold windUnmeasured; try dsimp only
  (repeat' split) <;> simp_all

@[simp] theorem tapeReelPulse_tc (r : Reel) (s : State) :
    (tapeReelPulse r s).1.tc = s.tc := by
  unfold tapeReelPulse; try dsimp only
  (repeat' split) <;> simp_all

@[simp] theorem stepFrame_tc (forward : Bool) (s : State) :
    (stepFrame forward s).tc = s.tc := by simp [stepFrame]

@[simp] theorem countFgStep_tc (s : State) :
    (countFgStep s).tc = s.tc := by
  unfold countFgStep; try dsimp only
  (repeat' split) <;> simp_all

@[simp] theorem countFgRevs_tc (s : State) :
    (countFgRevs s).tc = s.tc := by
  unfold countFgRevs; try dsimp only
  (repeat' split) <;> rfl

@[simp] theorem botFix_tc (s : State) :
    (botFix s).tc = s.tc := by simp [botFix]

@[simp] theorem eotFix_tc (s : State) :
    (eotFix s).tc = s.tc := by
  unfold eotFix; try dsimp only
  (repeat' split) <;> simp_all

@[simp] theorem zeroCounter_tc (s : State) :
    (zeroCounter s).tc = s.tc := rfl

@[simp] theorem writeEntry_tc (i : Nat) (e : Option CassEntry) (s : State) :
    (writeEntry i e s).1.tc = s.tc := by
  unfold writeEntry; try dsimp only
  (repeat' split) <;> simp_all

/-! ### Cue -/

@[simp] theorem writeCtl_tc (s : State) :
    (writeCtl s).tc = s.tc := by
  unfold writeCtl; try dsimp only
  (repeat' split) <;> rfl

@[simp] theorem stopWriting_tc (s : State) :
    (stopWriting s).tc = s.tc := rfl

@[simp] theorem markOpening_tc (s : State) :
    (markOpening s).tc = s.tc := by
  unfold markOpening; try dsimp only
  (repeat' split) <;> rfl

@[simp] theorem markHere_tc (s : State) :
    (markHere s).tc = s.tc := by
  unfold markHere; try dsimp only
  (repeat' split) <;> rfl

@[simp] theorem clearWindow_tc (s : State) :
    (clearWindow s).tc = s.tc := rfl

@[simp] theorem seekMark_tc (travel : Int) (pos : Option Nat) (s : State) :
    (seekMark travel pos s).1.tc = s.tc := by
  unfold seekMark; try dsimp only
  (repeat' split) <;> rfl

@[simp] theorem detectMark_tc (s : State) :
    (detectMark s).1.tc = s.tc := by
  unfold detectMark; try dsimp only
  (repeat' split) <;> simp_all

@[simp] theorem risingEdge_tc (s : State) :
    (risingEdge s).1.tc = s.tc := by
  unfold risingEdge; try dsimp only
  (repeat' split) <;> simp_all

@[simp] theorem fallingEdge_tc (s : State) :
    (fallingEdge s).tc = s.tc := by
  unfold fallingEdge; try dsimp only
  (repeat' split) <;> rfl

@[simp] theorem beginSeek_tc (reverse : Bool) (count : Nat) (s : State) :
    (beginSeek reverse count s).tc = s.tc := rfl

@[simp] theorem seekEnters_tc (t : TState) (s : State) :
    (seekEnters t s).tc = s.tc := by
  unfold seekEnters; try dsimp only
  (repeat' split) <;> rfl

/-! ### Servos -/

@[simp] theorem demandDrum_tc (t : DrumTarget) (s : State) :
    (demandDrum t s).tc = s.tc := by
  unfold demandDrum; try dsimp only
  (repeat' split) <;> simp_all

@[simp] theorem demandCap_tc (t : CapTarget) (s : State) :
    (demandCap t s).tc = s.tc := by
  unfold demandCap; try dsimp only
  (repeat' split) <;> simp_all

@[simp] theorem applyDrum_tc (s : State) :
    (applyDrum s).tc = s.tc := by
  unfold applyDrum; try dsimp only
  (repeat' split) <;> simp_all

@[simp] theorem applyCap_tc (s : State) :
    (applyCap s).tc = s.tc := by
  unfold applyCap; try dsimp only
  (repeat' split) <;> simp_all

@[simp] theorem refPulse_tc (video : Bool) (s : State) :
    (refPulse video s).1.tc = s.tc := by
  unfold refPulse; try dsimp only
  (repeat' split) <;> simp_all

@[simp] theorem videoPulse_tc (s : State) :
    (videoPulse s).1.tc = s.tc := by
  unfold videoPulse; try dsimp only
  (repeat' split) <;> simp_all

@[simp] theorem internalPulse_tc (s : State) :
    (internalPulse s).1.tc = s.tc := by
  unfold internalPulse; try dsimp only
  (repeat' split) <;> simp_all

@[simp] theorem measureDrum_tc (m : Nat) (s : State) :
    (measureDrum m s).tc = s.tc := by simp [measureDrum]

@[simp] theorem measureCap_tc (period m : Nat) (s : State) :
    (measureCap period m s).tc = s.tc := by simp [measureCap]

@[simp] theorem phaseDrum_tc (s : State) :
    (phaseDrum s).tc = s.tc := rfl

@[simp] theorem phaseCap_tc (s : State) :
    (phaseCap s).tc = s.tc := rfl

@[simp] theorem drumPulse_tc (s : State) :
    (drumPulse s).1.tc = s.tc := by
  unfold drumPulse; try dsimp only
  (repeat' split) <;> simp_all

@[simp] theorem capstanPulse_tc (s : State) :
    (capstanPulse s).1.tc = s.tc := by
  unfold capstanPulse; try dsimp only
  (repeat' split) <;> simp_all

@[simp] theorem missingPulse_tc (l : Loop) (s : State) :
    (missingPulse l s).1.tc = s.tc := by
  unfold missingPulse; try dsimp only
  (repeat' split) <;> simp_all

@[simp] theorem beginIdent_tc (s : State) :
    (beginIdent s).tc = s.tc := rfl

@[simp] theorem leavePlay_tc (s : State) :
    (leavePlay s).tc = s.tc := rfl

@[simp] theorem identPeriod_tc (n sum t : Nat) (s : State) :
    (identPeriod n sum t s).tc = s.tc := by
  unfold identPeriod; try dsimp only
  (repeat' split) <;> rfl

@[simp] theorem playCtl_tc (s : State) :
    (playCtl s).1.tc = s.tc := by
  unfold playCtl; try dsimp only
  (repeat' split) <;> simp_all

@[simp] theorem watchdogExpires_tc (s : State) :
    (watchdogExpires s).1.tc = s.tc := by
  unfold watchdogExpires; try dsimp only
  (repeat' split) <;> simp_all

/-! ### Recording -/

@[simp] theorem resumeRecording_tc (s : State) :
    (resumeRecording s).tc = { s.tc with heldSpeed := none } := rfl

/-- R195: what the speed kept back does to TC. -/
@[simp] theorem giveHeldSpeed_tc (s : State) :
    (giveHeldSpeed s).tc
      = { s.tc with recSpeed := s.tc.heldSpeed.getD s.tc.recSpeed, heldSpeed := none } := by
  unfold giveHeldSpeed
  split
  · next h => rw [h]; cases s with | mk tc => cases tc; simp_all
  · next h => split <;> simp [h]

/-- R12, R195: what the close of an open recording does to TC. -/
theorem closeRecording_tc (s : State) (h : s.tc.openRec = true) :
    (closeRecording s).tc
      = { s.tc with
          openRec := false
          recSpeed := s.tc.heldSpeed.getD s.tc.recSpeed
          heldSpeed := none } := by
  simp [closeRecording, h]

/-! ### Transport -/

@[simp] theorem demandState_tc (old new : TState) (s : State) :
    (demandState old new s).tc = s.tc := by simp [demandState]

@[simp] theorem beginState_tc (new : TState) (s : State) :
    (beginState new s).tc = s.tc := by
  unfold beginState; try dsimp only
  (repeat' split) <;> simp_all

@[simp] theorem takeSeek_tc (q : TransportRequest) (s : State) :
    (takeSeek q s).tc = s.tc := by
  unfold takeSeek; try dsimp only
  (repeat' split) <;> simp_all

@[simp] theorem lineRequest_tc (t : Target) (s : State) :
    (lineRequest t s).1.tc = s.tc := by
  unfold lineRequest; try dsimp only
  (repeat' split) <;> rfl

@[simp] theorem seeBot_tc (s : State) :
    (seeBot s).1.tc = s.tc := by
  unfold seeBot; try dsimp only
  (repeat' split) <;> simp_all

@[simp] theorem seeEot_tc (s : State) :
    (seeEot s).1.tc = s.tc := by
  unfold seeEot; try dsimp only
  (repeat' split) <;> simp_all

@[simp] theorem seeEnds_tc (s : State) :
    (seeEnds s).1.tc = s.tc := by
  unfold seeEnds; try dsimp only
  (repeat' split) <;> simp_all

@[simp] theorem lockWaitOver_tc (s : State) :
    (lockWaitOver s).1.tc = s.tc := by
  unfold lockWaitOver; try dsimp only
  (repeat' split) <;> rfl

@[simp] theorem lockWatchOver_tc (s : State) :
    (lockWatchOver s).1.tc = s.tc := by
  unfold lockWatchOver; try dsimp only
  (repeat' split) <;> rfl

/-! ### Tuner -/

@[simp] theorem putPreset_tc (p : Nat) (x : Option Preset) (s : State) :
    (putPreset p x s).tc = s.tc := rfl

@[simp] theorem beginWord_tc (w : SynthWord) (s : State) :
    (beginWord w s).tc = s.tc := rfl

@[simp] theorem sendWord_tc (s : State) :
    (sendWord s).tc = s.tc := by
  unfold sendWord; try dsimp only
  (repeat' split) <;> rfl

@[simp] theorem wordEnds_tc (s : State) :
    (wordEnds s).tc = s.tc := by
  unfold wordEnds; try dsimp only
  (repeat' split) <;> simp_all

@[simp] theorem resetTracker_tc (s : State) :
    (resetTracker s).1.tc = s.tc := by
  unfold resetTracker; try dsimp only
  (repeat' split) <;> rfl

@[simp] theorem dropTracker_tc (s : State) :
    (dropTracker s).1.tc = s.tc := by
  unfold dropTracker resetTracker; try dsimp only
  (repeat' split) <;> rfl

@[simp] theorem clearLearning_tc (s : State) :
    (clearLearning s).tc = s.tc := rfl

@[simp] theorem discardCandidate_tc (s : State) :
    (discardCandidate s).tc = s.tc := rfl

@[simp] theorem retuneData_tc (s : State) :
    (retuneData s).1.tc = s.tc := by simp [retuneData]

@[simp] theorem expectCode_tc (e : Nat) (s : State) :
    (expectCode e s).1.tc = s.tc := by
  unfold expectCode; try dsimp only
  (repeat' split) <;> simp_all

@[simp] theorem codeChanged_tc (new : Option Nat) (s : State) :
    (codeChanged new s).1.tc = s.tc := by
  unfold codeChanged; try dsimp only
  (repeat' split) <;> simp_all

@[simp] theorem tuningChange_tc (src : TunedSource) (base fine : Int) (s : State) :
    (tuningChange src base fine s).1.tc = s.tc := by simp [tuningChange]

@[simp] theorem settle_tc (s : State) :
    (settle s).tc = s.tc := rfl

@[simp] theorem settleOn_tc (src : TunedSource) (base fine : Int) (s : State) :
    (settleOn src base fine s).1.tc = s.tc := by simp [settleOn]

@[simp] theorem retunePreset_tc (p : Nat) (s : State) :
    (retunePreset p s).1.tc = s.tc := by
  unfold retunePreset; try dsimp only
  (repeat' split) <;> simp_all

@[simp] theorem tunePresetNow_tc (p : Nat) (s : State) :
    (tunePresetNow p s).1.tc = s.tc := by simp [tunePresetNow]

@[simp] theorem tuneTo_tc (p : Nat) (s : State) :
    (tuneTo p s).1.tc = s.tc := by
  unfold tuneTo; try dsimp only
  (repeat' split) <;> simp_all

@[simp] theorem settled_tc (s : State) :
    (settled s).tc = s.tc := by
  unfold settled; try dsimp only
  (repeat' split) <;> rfl

@[simp] theorem goIdle_tc (s : State) :
    (goIdle s).1.tc = s.tc := by simp [goIdle]

@[simp] theorem setFine_tc (v : Int) (s : State) :
    (setFine v s).tc = s.tc := by simp [setFine]

@[simp] theorem fineTuneTo_tc (v : Int) (s : State) :
    (fineTuneTo v s).tc = s.tc := by
  unfold fineTuneTo; try dsimp only
  (repeat' split) <;> simp_all

@[simp] theorem afcRead_tc (step : Int) (s : State) :
    (afcRead step s).tc = s.tc := by
  unfold afcRead; try dsimp only
  (repeat' split) <;> simp_all

@[simp] theorem afcExpires_tc (low high : Bool) (s : State) :
    (afcExpires low high s).tc = s.tc := by
  unfold afcExpires; try dsimp only
  (repeat' split) <;> simp_all

@[simp] theorem testDivider_tc (n : Int) (s : State) :
    (testDivider n s).1.tc = s.tc := by simp [testDivider]

@[simp] theorem cancelScan_tc (s : State) :
    (cancelScan s).tc = s.tc := by
  unfold cancelScan; try dsimp only
  (repeat' split) <;> rfl

@[simp] theorem enterScan_tc (st : TunerState) (up : Bool) (start : Int) (wrapped : Bool) (s : State) :
    (enterScan st up start wrapped s).tc = s.tc := rfl

@[simp] theorem beginSearch_tc (up : Bool) (s : State) :
    (beginSearch up s).1.tc = s.tc := by simp [beginSearch]

@[simp] theorem beginInstall_tc (p : Nat) (s : State) :
    (beginInstall p s).1.tc = s.tc := by simp [beginInstall]

@[simp] theorem returnToHeld_tc (s : State) :
    (returnToHeld s).1.tc = s.tc := by
  unfold returnToHeld; try dsimp only
  (repeat' split) <;> simp_all

@[simp] theorem searchFails_tc (s : State) :
    (searchFails s).1.tc = s.tc := by simp [searchFails]

@[simp] theorem installEnds_tc (s : State) :
    (installEnds s).1.tc = s.tc := by
  unfold installEnds; try dsimp only
  (repeat' split) <;> simp_all

@[simp] theorem nextStride_tc (stride : Nat) (s : State) :
    (nextStride stride s).1.tc = s.tc := by
  unfold nextStride; try dsimp only
  (repeat' split) <;> simp_all

@[simp] theorem sampleSync_tc (present : Bool) (s : State) :
    (sampleSync present s).1.tc = s.tc := by
  unfold sampleSync; try dsimp only
  (repeat' split) <;> simp_all

@[simp] theorem stationFound_tc (n : Int) (s : State) :
    (stationFound n s).1.tc = s.tc := by
  unfold stationFound; try dsimp only
  (repeat' split) <;> simp_all

@[simp] theorem fineStepTo_tc (n : Int) (s : State) :
    (fineStepTo n s).1.tc = s.tc := by simp [fineStepTo]

@[simp] theorem readFineStep_tc (low high : Bool) (s : State) :
    (readFineStep low high s).1.tc = s.tc := by
  unfold readFineStep; try dsimp only
  (repeat' split) <;> simp_all

@[simp] theorem storeCandidate_tc (x : Preset) (s : State) :
    (storeCandidate x s).tc = s.tc := rfl

@[simp] theorem dwellExpires_tc (s : State) :
    (dwellExpires s).1.tc = s.tc := by
  unfold dwellExpires; try dsimp only
  (repeat' split) <;> simp_all

@[simp] theorem grantTuner_tc (src : Source) (s : State) :
    (grantTuner src s).1.tc = s.tc := by
  unfold grantTuner; try dsimp only
  (repeat' split) <;> simp_all

@[simp] theorem releaseTuner_tc (s : State) :
    (releaseTuner s).tc = s.tc := rfl

@[simp] theorem rewriteTuned_tc (old new : Preset) (s : State) :
    (rewriteTuned old new s).1.tc = s.tc := by
  unfold rewriteTuned; try dsimp only
  (repeat' split) <;> simp_all

@[simp] theorem blankTuned_tc (s : State) :
    (blankTuned s).tc = s.tc := by
  unfold blankTuned; try dsimp only
  (repeat' split) <;> simp_all

@[simp] theorem writePreset_tc (p : Nat) (new : Option Preset) (s : State) :
    (writePreset p new s).1.tc = s.tc := by
  unfold writePreset; try dsimp only
  (repeat' split) <;> simp_all

@[simp] theorem offerCode_tc (code : Nat) (s : State) :
    (offerCode code s).1.tc = s.tc := by
  unfold offerCode; try dsimp only
  (repeat' split) <;> simp_all

@[simp] theorem offerName_tc (name : List Byte) (s : State) :
    (offerName name s).tc = s.tc := by
  unfold offerName; try dsimp only
  (repeat' split) <;> rfl

@[simp] theorem writeLimits_tc (t : BandTable) (s : State) :
    (writeLimits t s).tc = s.tc := by
  unfold writeLimits; try dsimp only
  (repeat' split) <;> simp_all

@[simp] theorem warmTune_tc (s : State) :
    (warmTune s).1.tc = s.tc := by
  unfold warmTune; try dsimp only
  (repeat' split) <;> simp_all

/-! ### Clock -/

@[simp] theorem handJump_tc (cause : JumpCause) (old : DateTime) (s : State) :
    (handJump cause old s).1.tc = s.tc := rfl

@[simp] theorem advanceClock_tc (s : State) :
    (advanceClock s).tc = s.tc := rfl

@[simp] theorem passSecond_tc (s : State) :
    (passSecond s).1.tc = s.tc := by
  unfold passSecond; try dsimp only
  (repeat' split) <;> rfl

@[simp] theorem putClock_tc (t : DateTime) (st : ClockState) (s : State) :
    (putClock t st s).tc = s.tc := rfl

@[simp] theorem setClock_tc (t : DateTime) (s : State) :
    (setClock t s).1.tc = s.tc := by
  unfold setClock; try dsimp only
  (repeat' split) <;> rfl

@[simp] theorem acceptTime_tc (n : TimeCandidate) (s : State) :
    (acceptTime n s).1.tc = s.tc := by
  unfold acceptTime; try dsimp only
  (repeat' split) <;> simp_all

@[simp] theorem considerPair_tc (pending : Option TimeCandidate) (n : TimeCandidate) (s : State) :
    (considerPair pending n s).1.tc = s.tc := by
  unfold considerPair; try dsimp only
  (repeat' split) <;> simp_all

/-! ### DataLines -/

@[simp] theorem offerCopy_tc (display : Bool) (p : List Byte) (s : State) :
    (offerCopy display p s).tc = s.tc := by
  unfold offerCopy; try dsimp only
  (repeat' split) <;> rfl

@[simp] theorem forwardLine_tc (line : Nat) (q : LineQuality) (v : Service) (p : List Byte) (s : State) :
    (forwardLine line q v p s).tc = s.tc := by
  unfold forwardLine; try dsimp only
  (repeat' split) <;> simp_all

@[simp] theorem learnCode_tc (c : Nat) (s : State) :
    (learnCode c s).1.tc = s.tc := by
  unfold learnCode; try dsimp only
  (repeat' split) <;> simp_all

@[simp] theorem learnName_tc (cs : List Byte) (s : State) :
    (learnName cs s).tc = s.tc := by
  unfold learnName; try dsimp only
  (repeat' split) <;> simp_all

@[simp] theorem restartLoss_tc (s : State) :
    (restartLoss s).tc = s.tc := by
  unfold restartLoss; try dsimp only
  (repeat' split) <;> rfl

@[simp] theorem trackLabel_tc (c : Nat) (v : Option Label) (st : LabelStatus) (s : State) :
    (trackLabel c v st s).1.tc = s.tc := by
  unfold trackLabel; try dsimp only
  (repeat' split) <;> simp_all

@[simp] theorem lossExpires_tc (s : State) :
    (lossExpires s).1.tc = s.tc := by
  unfold lossExpires; try dsimp only
  (repeat' split) <;> rfl

@[simp] theorem produceTime_tc (utc : DateTime) (offset : Int) (s : State) :
    (produceTime utc offset s).1.tc = s.tc := by
  unfold produceTime; try dsimp only
  (repeat' split) <;> simp_all

@[simp] theorem actContent_tc (x : LineContent) (s : State) :
    (actContent x s).1.tc = s.tc := by
  unfold actContent; try dsimp only
  (repeat' split) <;> simp_all

@[simp] theorem actOnLine_tc (q : LineQuality) (v : Service) (p : List Byte) (s : State) :
    (actOnLine q v p s).1.tc = s.tc := by
  unfold actOnLine; try dsimp only
  (repeat' split) <;> simp_all

@[simp] theorem takeDataLine_tc (p : List Byte) (s : State) :
    (takeDataLine p s).1.tc = s.tc := by
  unfold takeDataLine; try dsimp only
  (repeat' split) <;> simp_all

/-! ### Timer -/

@[simp] theorem slotChanged_tc (slot : Nat) (s : State) :
    (slotChanged slot s).tc = s.tc := rfl

@[simp] theorem putRec_tc (slot : Nat) (r : TimerRecord) (s : State) :
    (putRec slot r s).tc = s.tc := by
  unfold putRec; try dsimp only
  (repeat' split) <;> rfl

@[simp] theorem setClaim_tc (c : Option Nat) (s : State) :
    (setClaim c s).tc = s.tc := rfl

@[simp] theorem endIdle_tc (slot : Nat) (res : ResultCode) (s : State) :
    (endIdle slot res s).tc = s.tc := by simp [endIdle]

@[simp] theorem endRec_tc (slot : Nat) (res : ResultCode) (ask serve : Bool) (s : State) :
    (endRec slot res ask serve s).1.tc = s.tc := by simp [endRec]

@[simp] theorem endingStop_tc (s : State) :
    (endingStop s).1.tc = s.tc := by
  unfold endingStop; try dsimp only
  (repeat' split) <;> rfl

@[simp] theorem freeClaim_tc (serve : Bool) (s : State) :
    (freeClaim serve s).1.tc = s.tc := rfl

@[simp] theorem finishRec_tc (slot : Nat) (s : State) :
    (finishRec slot s).tc = s.tc := by
  unfold finishRec; try dsimp only
  (repeat' split) <;> simp_all

@[simp] theorem conflictSlot_tc (s : State) (slot : Nat) :
    (conflictSlot s slot).tc = s.tc := by
  unfold conflictSlot; try dsimp only
  (repeat' split) <;> simp_all

@[simp] theorem serveFirst_tc : ∀ (ns : List Nat) (s : State), (serveFirst ns s).1.tc = s.tc
  | [], _ => rfl
  | n :: ns, s => by
      unfold serveFirst
      split
      · exact (serveFirst_tc ns _).trans (endIdle_tc n _ s)
      · rfl

@[simp] theorem conflictSlots_tc (ns : List Nat) (s : State) :
    (ns.foldl conflictSlot s).tc = s.tc :=
  foldl_keeps State.tc conflictSlot (fun s a => conflictSlot_tc s a) ns s

@[simp] theorem serveDeferred_tc (s : State) : (serveDeferred s).1.tc = s.tc := by
  unfold serveDeferred; try dsimp only
  split <;> simp

@[simp] theorem grantClaim_tc (slot : Nat) (s : State) :
    (grantClaim slot s).1.tc = s.tc := by simp [grantClaim]

@[simp] theorem enterStarting_tc (slot : Nat) (ph : Phase) (s : State) :
    (enterStarting slot ph s).tc = s.tc := by simp [enterStarting]

@[simp] theorem startClock_tc (slot : Nat) (s : State) :
    (startClock slot s).1.tc = s.tc := by
  unfold startClock; try dsimp only
  (repeat' split) <;> simp_all

@[simp] theorem firstRecord_tc (slot : Nat) (s : State) :
    (firstRecord slot s).1.tc = s.tc := by
  unfold firstRecord; try dsimp only
  (repeat' split) <;> simp_all

@[simp] theorem goCheck_tc (s : State) :
    (goCheck s).1.tc = s.tc := by
  unfold goCheck; try dsimp only
  (repeat' split) <;> rfl

@[simp] theorem toWatching_tc (slot : Nat) (s : State) :
    (toWatching slot s).tc = s.tc := by
  unfold toWatching; try dsimp only
  (repeat' split) <;> simp_all

@[simp] theorem timerRequest_tc (t : Target) (s : State) :
    (timerRequest t s).1.tc = s.tc := by
  unfold timerRequest; try dsimp only
  (repeat' split) <;> rfl

@[simp] theorem requestRefused_tc (t : Target) (why : Reason) (s : State) :
    (requestRefused t why s).1.tc = s.tc := by
  unfold requestRefused; try dsimp only
  (repeat' split) <;> rfl

@[simp] theorem labelWatching_tc (n : Nat) (r : TimerRecord) (v : Option Label) (st : LabelStatus) (s : State) :
    (labelWatching n r v st s).1.tc = s.tc := by
  unfold labelWatching; try dsimp only
  (repeat' split) <;> simp_all

@[simp] theorem labelStarting_tc (n : Nat) (r : TimerRecord) (v : Option Label) (st : LabelStatus) (s : State) :
    (labelStarting n r v st s).1.tc = s.tc := by
  unfold labelStarting; try dsimp only
  (repeat' split) <;> simp_all

@[simp] theorem labelRecording_tc (n : Nat) (r : TimerRecord) (v : Option Label) (st : LabelStatus) (s : State) :
    (labelRecording n r v st s).1.tc = s.tc := by
  unfold labelRecording; try dsimp only
  (repeat' split) <;> simp_all

@[simp] theorem labelLoss_tc (n : Nat) (r : TimerRecord) (s : State) :
    (labelLoss n r s).1.tc = s.tc := by
  unfold labelLoss; try dsimp only
  (repeat' split) <;> simp_all

@[simp] theorem labelEvent_tc (t : Tracker) (s : State) :
    (labelEvent t s).1.tc = s.tc := by
  unfold labelEvent; try dsimp only
  (repeat' split) <;> simp_all

@[simp] theorem recordEntered_tc (opened : Option Bool) (n : Nat) (r : TimerRecord) (s : State) :
    (recordEntered opened n r s).tc = s.tc := by
  unfold recordEntered; try dsimp only
  (repeat' split) <;> simp_all

@[simp] theorem pauseEntered_tc (n : Nat) (r : TimerRecord) (s : State) :
    (pauseEntered n r s).1.tc = s.tc := by
  unfold pauseEntered; try dsimp only
  (repeat' split) <;> simp_all

@[simp] theorem transportChanged_tc (new : TState) (opened : Option Bool) (s : State) :
    (transportChanged new opened s).1.tc = s.tc := by
  unfold transportChanged; try dsimp only
  (repeat' split) <;> simp_all

@[simp] theorem ownTargetSet_tc (cause : OwnCause) (s : State) :
    (ownTargetSet cause s).1.tc = s.tc := by
  unfold ownTargetSet; try dsimp only
  (repeat' split) <;> rfl

@[simp] theorem haltSeen_tc (servo : Bool) (s : State) :
    (haltSeen servo s).1.tc = s.tc := by
  unfold haltSeen; try dsimp only
  (repeat' split) <;> rfl

@[simp] theorem eotSeen_tc (s : State) :
    (eotSeen s).1.tc = s.tc := by
  unfold eotSeen; try dsimp only
  (repeat' split) <;> rfl

@[simp] theorem servoUnlocked_tc (s : State) :
    (servoUnlocked s).tc = s.tc := by
  unfold servoUnlocked; try dsimp only
  (repeat' split) <;> simp_all

@[simp] theorem lockWatched_tc (s : State) :
    (lockWatched s).tc = s.tc := by
  unfold lockWatched; try dsimp only
  (repeat' split) <;> simp_all

@[simp] theorem leftUnindexed_tc (s : State) :
    (leftUnindexed s).tc = s.tc := by
  unfold leftUnindexed; try dsimp only
  (repeat' split) <;> simp_all

@[simp] theorem countSecond_tc (s : State) :
    (countSecond s).1.tc = s.tc := by
  unfold countSecond; try dsimp only
  (repeat' split) <;> simp_all

@[simp] theorem fallBack_tc (n : Nat) (r : TimerRecord) (s : State) :
    (fallBack n r s).1.tc = s.tc := by
  unfold fallBack; try dsimp only
  (repeat' split) <;> simp_all

@[simp] theorem startReached_tc (n : Nat) (r : TimerRecord) (s : State) :
    (startReached n r s).1.tc = s.tc := by
  unfold startReached; try dsimp only
  (repeat' split) <;> simp_all

@[simp] theorem holderMoments_tc (late expired : ResultCode) (n : Nat) (r : TimerRecord) (s : State) :
    (holderMoments late expired n r s).1.tc = s.tc := by
  unfold holderMoments; try dsimp only
  (repeat' split) <;> simp_all

@[simp] theorem secondMoments_tc (s : State) :
    (secondMoments s).1.tc = s.tc := by
  unfold secondMoments; try dsimp only
  (repeat' split) <;> simp_all

@[simp] theorem deferRec_tc (slot : Nat) (s : State) :
    (deferRec slot s).tc = s.tc := by simp [deferRec]

@[simp] theorem serveTrigger_tc (slot : Nat) (s : State) :
    (serveTrigger slot s).1.tc = s.tc := by
  unfold serveTrigger; try dsimp only
  (repeat' split) <;> simp_all

@[simp] theorem slotTrigger_tc (slot : Nat) (s : State) :
    (slotTrigger slot s).1.tc = s.tc := by
  unfold slotTrigger; try dsimp only
  (repeat' split) <;> simp_all

@[simp] theorem jumpHolder_tc (s : State) :
    (jumpHolder s).1.tc = s.tc := by
  unfold jumpHolder; try dsimp only
  (repeat' split) <;> simp_all

@[simp] theorem jumpOther_tc (slot : Nat) (s : State) :
    (jumpOther slot s).1.tc = s.tc := by
  unfold jumpOther; try dsimp only
  (repeat' split) <;> simp_all

@[simp] theorem release_tc (s : State) :
    (release s).1.tc = s.tc := by
  unfold release; try dsimp only
  (repeat' split) <;> rfl

@[simp] theorem missDeferred_tc (s : State) (slot : Nat) :
    (missDeferred s slot).tc = s.tc := by
  unfold missDeferred; try dsimp only
  (repeat' split) <;> simp_all

@[simp] theorem missDeferreds_tc (ns : List Nat) (s : State) :
    (ns.foldl missDeferred s).tc = s.tc :=
  foldl_keeps State.tc missDeferred (fun s a => missDeferred_tc s a) ns s

@[simp] theorem powerFailSlot_tc (s : State) (slot : Nat) :
    (powerFailSlot s slot).tc = s.tc := by
  unfold powerFailSlot; try dsimp only
  (repeat' split) <;> simp_all

@[simp] theorem powerFailSlots_tc (ns : List Nat) (s : State) :
    (ns.foldl powerFailSlot s).tc = s.tc :=
  foldl_keeps State.tc powerFailSlot (fun s a => powerFailSlot_tc s a) ns s

@[simp] theorem powerFailTimer_tc (s : State) : (powerFailTimer s).tc = s.tc := by
  unfold powerFailTimer; simp

@[simp] theorem resetDeckTimer_tc (s : State) :
    (resetDeckTimer s).tc = s.tc := by
  unfold resetDeckTimer; try dsimp only
  (repeat' split) <;> simp_all

@[simp] theorem catchUpSlot_tc (s : State) (slot : Nat) :
    (catchUpSlot s slot).tc = s.tc := by
  unfold catchUpSlot; try dsimp only
  (repeat' split) <;> simp_all

@[simp] theorem catchUpSlots_tc (ns : List Nat) (s : State) :
    (ns.foldl catchUpSlot s).tc = s.tc :=
  foldl_keeps State.tc catchUpSlot (fun s a => catchUpSlot_tc s a) ns s

@[simp] theorem catchUp_tc (s : State) : (catchUp s).1.tc = s.tc := by
  unfold catchUp; try dsimp only
  split <;> simp

/-! ### Lines -/

@[simp] theorem putSettled_tc (i : Nat) (v : PinLevel) (s : State) :
    (putSettled i v s).tc = s.tc := rfl

@[simp] theorem inputEdge_tc (e : LineEvent) (rise : Bool) (s : State) :
    (inputEdge e rise s).1.tc = s.tc := by
  unfold inputEdge; try dsimp only
  (repeat' split) <;> simp_all

@[simp] theorem lineSettles_tc (i : Nat) (v : PinLevel) (s : State) :
    (lineSettles i v s).1.tc = s.tc := by
  unfold lineSettles; try dsimp only
  (repeat' split) <;> simp_all

@[simp] theorem assignLine_tc (i : Nat) (a : Assignment) (v : PinLevel) (s : State) :
    (assignLine i a v s).tc = s.tc := by
  unfold assignLine; try dsimp only
  (repeat' split) <;> rfl

end Sys2Proof.Machine
end

