-- ==== Sys2Proof/WellFormed.lean ====
section
/-!
DEFINITION. What a command's operands must be for the command to be one the part can meet: what the
types of Syntax.lean leave open. Decoding and meaning do not depend on it; it is for statements and
tests.
-/
namespace Sys2Proof

/-- 10.1: a payload holds at most 40 bytes. -/
def payloadFits (p : List Byte) : Bool := decide (p.length ≤ 40)

/-- R173: the request name and the tag take two of the payload's bytes. -/
def paramsFit (p : List Byte) : Bool := decide (p.length ≤ 38)

/-- 9.1: the part has eight line pins. -/
def Pins.wellFormed (p : Pins) : Bool := decide (p.lines.length = 8)

/-- 10.3: the codes of the request names. -/
def requestNames : List Nat :=
  [16] ++ List.range' 32 7 ++ List.range' 48 11 ++ List.range' 64 3 ++ [80, 81] ++ List.range' 96 5
    ++ List.range' 112 4 ++ List.range' 120 4

/-- The commands that the part can meet. -/
def Instr.wellFormed (i : Instr) : Bool :=
  match i with
  | .dataLinePacket p => payloadFits p
  | .deckRequest _ p | .cueSeek _ p | .cueMark _ p | .counterZero _ p | .tapeQuery _ p
  | .directoryRead _ p | .cassetteEntryWrite _ p | .cassetteEntryRead _ p | .presetWrite _ p
  | .presetRead _ p | .tunePreset _ p | .tuneFrequency _ p | .tuneStep _ p | .search _ p
  | .install _ p | .fineTune _ p | .bandLimitsWrite _ p | .sourceSelect _ p | .tunerQuery _ p
  | .filterWrite _ p | .filterRead _ p | .labelQuery _ p | .clockSet _ p | .clockRead _ p
  | .recordWrite _ p | .recordRead _ p | .recordClear _ p | .timerEngage _ p | .timerRelease _ p
  | .indicatorSet _ p | .patternStage _ p | .lineQuery _ p | .status _ p
  | .parameterSet _ p | .parameterRead _ p => paramsFit p
  | .lineAssign _ p => paramsFit p.bytes
  | .resetDeck _ pins | .resetAll _ pins | .returnTimerExpiry pins => pins.wellFormed
  | .inboundByte b => b.pins.wellFormed
  | .unknownRequest name _ p => !requestNames.contains name.toNat && paramsFit p
  | .sensorSettled _ | .moveTimeout | .haltedTimeout | .retryDecayExpiry | .lockWaitTimeout
  | .recordLockTimeout | .reelStall | .idleTimeout | .pauseTimeout | .pwmPeriodStart _
  | .overcurrentTrip _ _ | .recoveryEnd _ | .videoFramePulse _ | .internalFramePulse
  | .drumPgPulse _ | .capstanFgPulse _ | .missingPulseMeasurement _ | .ctlPulse _ _
  | .ctlWatchdogExpiry | .reelPulse _ _ | .wordTransferEnd | .settlingExpiry | .afcTimerExpiry _ _
  | .syncSample _ | .fineStepRead _ _ | .dwellExpiry | .lossTimerExpiry | .secondPasses
  | .holdCountExpiry | .startCountExpiry | .lineInputSettled _ _ | .packetDiscard _
  | .gapTimerExpiry | .transmissionEnd | .holdInputChange _ | .mainsFailAssert
  | .mainsFailDeassert => true

end Sys2Proof
end

