-- ==== Sys2Proof/Tests/Slice0.lean ====
section
/-!
SUPPORT. The model's own tests: the well-formedness checks each refusing an ill-formed term, the
manual's worked examples and tables (each test names the one it takes its numbers from), and, for every
statement with hypotheses, a state and operands that meet them.
-/

open Sys2Proof Sys2Proof.Machine

namespace Sys2Proof.Tests

set_option Elab.async false

/-! ### States and outcomes -/

/-- An outcome is a next state with a property. -/
def leads (o : Host.Outcome State Fault Refusal) (p : State → Bool) : Bool :=
  match o with
  | .next t => p t
  | _ => false

/-- An outcome that leads somewhere is a next state. -/
theorem next_of_leads {o : Host.Outcome State Fault Refusal} (h : leads o (fun _ => true) = true) :
    ∃ t, o = .next t := by
  cases o with
  | next t => exact ⟨t, rfl⟩
  | fault f => simp [leads] at h
  | refused r => simp [leads] at h

/-- The state after reset with its first reports sent and its condition cleared. -/
def calm : State :=
  { State.reset with lku := { State.reset.lku with queue := [], tx := none, latched := [] } }

/-- A cassette with its record tab, nothing measured yet. -/
def tape : Cassette := { Cassette.fresh with tab := .yes }

/-- A cassette in the deck, the transport in a state, with its target, and the cam at a code. -/
def deckAt (st : TState) (goal : Option Goal) (cam : Cam) : State :=
  { calm with
    tc := { calm.tc with
      state := st, goal := goal
      sensors := ⟨cam, true, true, false, false, false⟩ }
    tau := { calm.tau with record := some tape } }

/-- Playing on the video reference or the internal one, with the drum and the capstan driving. -/
def playing : State :=
  let s := deckAt .play (some ⟨.play, .play⟩) (.code .c3)
  { s with
    mdu := { s.mdu with
      drum := { s.mdu.drum with staged := ⟨.run, 400⟩, applied := ⟨.run, 400⟩, state := .driving }
      capstan := { s.mdu.capstan with staged := ⟨.fwd, 300⟩, applied := ⟨.fwd, 300⟩, state := .driving }
      reel := { s.mdu.reel with
        staged := ⟨.fwd, 300⟩, applied := ⟨.fwd, 300⟩, state := .driving, lastDir := some .fwd } }
    svu := { s.svu with drumTarget := .run .internal, capTarget := .run false 1 1 } }

/-- A preset with its divider and its source code. -/
def station (n : Nat) (code : Option Nat) : Preset := ⟨n, 0, false, true, true, code, none⟩

/-- The tuner TUNED on preset 7. -/
def tuned : State :=
  { calm with tnu := { calm.tnu with
      presets := calm.tnu.presets.set 6 (some (station 3664 (some 1201)))
      state := .tuned, source := .preset 7, base := some 3664, band := some .high
      lastTuned := some 7, afcTimer := some 100000 } }

/-- The cassette type T120 of the manual's worked cases. -/
def t120 : CassEntry := ⟨[84, 49, 50, 48], .f60, 961664, 16000, 296, 18000⟩

/-- The label 14-3 20:15 of the manual's examples. -/
def label : Label := ⟨14, 3, 20, 15⟩

/-- The manual's CLOCK record, 20:00 to 21:00 on 14-3-2031. -/
def clockRec : TimerRecord :=
  { TimerRecord.blank with
    state := .armed, source := .preset 7, start := (⟨14, 3, 2031, 20, 0, 0⟩ : DateTime).seconds
    stopHour := 21 }

/-- The manual's LABEL record, 20:15 to 21:45 on 14-3-2031. -/
def labelRec : TimerRecord :=
  { clockRec with
    labelControl := true, label := some label
    start := (⟨14, 3, 2031, 20, 15, 0⟩ : DateTime).seconds, stopHour := 21, stopMinute := 45 }

/-- The clock SET to a moment. -/
def clockAt (t : DateTime) (s : State) : State := { s with cku := { s.cku with now := t, state := .set } }

/-- The timer engaged, a record in slot 3 in a state, holding the deck claim or not. -/
def engagedWith (r : TimerRecord) (claim : Option Nat) (s : State) : State :=
  { s with pgt := { s.pgt with
      records := s.pgt.records.set 2 r, engaged := true, claim := claim } }

/-- The outage: the power-fail stop taken from the state after reset. -/
def dark : State := powerFailStop calm

/-- The return timer running. -/
def returning : State :=
  { dark with lku := { dark.lku with supply := .returning, returnTimer := some 1000000 } }

/-- The tuner on preset 7, the label `v` said once with the status `st`. -/
def saidOnce (v : Option Label) (st : LabelStatus) (s : State) : State :=
  { s with tnu := tuned.tnu, dlp := { s.dlp with proposal := some ⟨1201, v, st⟩ } }

/-- The tracker LIVE with the label `v`, its loss timer at 9. -/
def liveLabel (v : Option Label) (st : LabelStatus) (s : State) : State :=
  { s with dlp := { s.dlp with tracker := .live 1201 v st, lossTimer := some 9 } }

/-- The premises of a label event that the holder of the claim takes with the deck ready. -/
abbrev takesEvents (n : Nat) (s : State) : Prop :=
  s.lku.supply = .mains ∧ s.pgt.records.length = 16 ∧ n ∈ slots ∧ s.pgt.claim = some n
    ∧ s.pgt.engaged = true ∧ s.pgt.again = none ∧ (∀ j ∈ slots, (s.slot j).state ≠ .deferred)
    ∧ s.tc.lockWait = false ∧ s.tc.startUp = false ∧ s.tc.sensors.dew = false
    ∧ s.tc.sensors.eot = false ∧ s.tau.record.map Cassette.tab ≠ some .no
    ∧ ∀ c ∈ Channel.all, (s.mdu.motor c).state ≠ .latchedOff

/-- The premises of a LABEL packet that makes the tracker LIVE. -/
abbrev hears (p : List Byte) (v : Option Label) (st : LabelStatus) (s : State) : Prop :=
  lineItems p = some (16, .good, .label) ∧ contentOf .label p = some (.label 1201 v st)
    ∧ s.expected = some 1201 ∧ lineAction s.dlp.filter 16 .good .label = .drop
    ∧ s.dlp.tracker ≠ .live 1201 v st ∧ s.dlp.proposal = some ⟨1201, v, st⟩

/-! ### Well-formedness, words, the step -/

/-- 10.1: 41 bytes are more than a payload holds. -/
theorem test_wellFormed_refuses_long_payload :
    Sys2Proof.Instr.wellFormed (.dataLinePacket (List.replicate 41 0)) = false
      ∧ Sys2Proof.Instr.wellFormed (.dataLinePacket (List.replicate 40 0)) = true := by decide

/-- R173: the name and the tag leave 38 bytes of parameters. -/
theorem test_wellFormed_refuses_long_params :
    Sys2Proof.Instr.wellFormed (.deckRequest 0 (List.replicate 39 0)) = false
      ∧ Sys2Proof.Instr.wellFormed (.deckRequest 0 (List.replicate 38 0)) = true := by decide

/-- 9.1: eight line pins. -/
theorem test_wellFormed_refuses_seven_lines :
    Sys2Proof.Instr.wellFormed (.resetDeck 0 { inputsAtReset with lines := List.replicate 7 .low }) = false
      ∧ Sys2Proof.Instr.wellFormed (.resetDeck 0 inputsAtReset) = true := by decide

/-- 10.3: 0x7B is the name RESET, 0x7C no name. -/
theorem test_wellFormed_refuses_known_name :
    Sys2Proof.Instr.wellFormed (.unknownRequest 0x7B 0 []) = false
      ∧ Sys2Proof.Instr.wellFormed (.unknownRequest 0x7C 0 []) = true := by decide

/-- No word spells a command. -/
theorem test_no_word_spells_a_command : decodeTableWord 8 1 = none := rfl

/-- The front command runs, and leaves the queue: a pulse on an input that no target uses. -/
theorem test_step_takes_the_front :
    leads (step { calm with pending := [.videoFramePulse 5, .moveTimeout] })
      (fun t => decide (t.now = 5 ∧ t.pending = [.moveTimeout])) = true := by decide +kernel

/-- R127: 32,768 cycles of the crystal make a second. -/
theorem test_idle_cycle_makes_a_second :
    leads (step { calm with cku := { calm.cku with prescaler := 32767 } })
      (fun t => decide (t.cku.now = ⟨1, 1, 2000, 0, 0, 1⟩ ∧ t.cku.prescaler = 0)) = true := by
  decide +kernel

/-- 11.3: the start values of State.reset are those that a cold start with the same inputs leaves. -/
theorem test_reset_is_a_cold_start :
    leads (exec (.returnTimerExpiry inputsAtReset)
        { returning with lku := { returning.lku with returnTimer := some 0 } })
      (fun t => decide (t = State.reset)) = true := by decide +kernel

/-! ### The manual's worked examples -/

/-- 2.2, examples of applied duty: its five rows. -/
theorem test_applied_duty :
    appliedDuty 900 120 120 1000 = 900 ∧ appliedDuty 900 120 150 1000 = 720
      ∧ appliedDuty 900 120 132 1000 = 818 ∧ appliedDuty 900 120 100 1000 = 1000
      ∧ appliedDuty 900 120 40 1000 = 1000 := by decide

/-- 2.2, reversing the reel: period n+2 is a dead-zone period, period n+3 drives. -/
theorem test_reversing_the_reel :
    let m : Motor :=
      { Motor.start .brake with staged := ⟨.rev, 900⟩, lastDir := some .fwd, offCount := 1 }
    let dead := (m.atPeriodStart).formBridge 2 900
    dead.applied = ⟨.off, 0⟩ ∧ dead.offCount = 2
      ∧ ((dead.atPeriodStart).formBridge 2 900).applied = ⟨.rev, 900⟩
      ∧ ((dead.atPeriodStart).formBridge 2 900).offCount = 0 := by decide

/-- 2.6, drum speed loop at run-up: its first and third rows. -/
theorem test_drum_run_up :
    let l := ServoLoop.start 0
    let r1 := l.measure 33333 ⟨8, 2, 4, 400⟩ 1000 33900
    let r3 := ServoLoop.measure 33333 ⟨8, 2, 4, 400⟩ 1000 33200 { l with integrator := 1468, inBand := 1 }
    r1.2 = 687 ∧ r1.1.integrator = 1134 ∧ r1.1.inBand = 0
      ∧ r3.2 = 337 ∧ r3.1.integrator = 1202 ∧ r3.1.inBand = 2 := by decide

/-- R44: target periods of its table. -/
theorem test_capstan_periods :
    capPeriodOf .f60 1 1 = 2778 ∧ capPeriodOf .f60 1 5 = 556 ∧ capPeriodOf .f60 1 9 = 309
      ∧ capPeriodOf .f60 2 1 = 5556 := by decide

/-- 2.8, identification of an LP tape: the eighth period completes it. -/
theorem test_identifies_lp :
    let s : State :=
      { playing with now := 133336, svu := { playing.svu with ident := .running (some 116669) 7 116669 } }
    leads (exec (.ctlPulse 0 .rising) s)
      (fun t => decide (t.svu.ident = .complete ∧ t.svu.capStaged = some (.run false 2 1)
        ∧ t.tau.record.bind Cassette.speed = some .lp)) = true := by decide +kernel

/-- 3.2, 12.6: the entry of a T120 cassette holds 216,000 SP frames. -/
theorem test_cassette_total :
    (⟨[84, 49, 50, 48], .f60, 961664, 16000, 296, 18000⟩ : CassEntry).total = 216000 := by decide

/-- 3.3, gathering samples past a disturbed one: a rejected and the accepted set. -/
theorem test_spread :
    spreadTest [963100, 940000, 962800, 962700] = none
      ∧ spreadTest [962800, 962700, 962650, 962600] = some 962687 := by decide

/-- 3.9: END_WARN 180: NEAR at 179 s, CLEAR again at 190 s, and neither between. -/
theorem test_end_warning :
    endWarning false (some 179) 180 = true ∧ endWarning true (some 189) 180 = true
      ∧ endWarning true (some 190) 180 = false ∧ endWarning false (some 180) 180 = false := by decide

/-- R52: 12 FG pulses are four quarter frames; the wrap saturates. -/
theorem test_wrap : wrapOf 12 = 4 ∧ wrapOf 13 = 4 ∧ wrapOf 14 = 5 ∧ wrapOf 20000 = 4095 := by decide

/-- R75: in F60 a pulse of 60 percent high is long, one of 27 percent is not. -/
theorem test_ctl_pulse_length :
    CtlEdge.isLong ⟨0, some 19999, none, 0⟩ 33333 = true
      ∧ CtlEdge.isLong ⟨0, some 8999, none, 0⟩ 33333 = false := by decide

/-- 4.2, detecting a recording's own mark: the 32nd long pulse detects, at the oldest long entry. -/
theorem test_mark_detected :
    markEntry false (List.replicate 16 ⟨false, none, 0⟩ ++ (⟨true, some 70030, 0⟩
        :: List.replicate 31 ⟨true, some 70040, 0⟩)) = some ⟨true, some 70030, 0⟩
      := by decide

/-- 4.3, a cue seek of three marks: the first mark, 10 frames on, is not counted; at 13,000 it is. -/
theorem test_cue_seek_counts :
    let s : State := { playing with tau := { playing.tau with seek := ⟨.seeking, false, 3, 0, 0, true, none⟩ } }
    (seekMark 10 none s).1.tau.seek.found = 0 ∧ (seekMark 13000 none s).1.tau.seek.found = 1 := by
  decide +kernel

/-- R88: dividers of the manual's tables. -/
theorem test_dividers :
    dividerOf .f60 183250 = 3664 ∧ dividerOf .f60 168750 = 3432 ∧ dividerOf .f60 863250 = 14544
      ∧ dividerOf .f50 45250 = 1346 ∧ frequencyOf .f60 3474 = 171375 := by decide

/-- 5.4, examples of direct tuning: 168,750 kHz lies in the gap and is tuned at 3,424, CLAMPED. -/
theorem test_direct_tuning_in_the_gap :
    leads (exec (.tuneFrequency 9 [0, 2, 0x93, 0x2E]) calm)
      (fun t => decide (t.tnu.base = some 3424 ∧ t.tnu.band = some .low ∧ t.tnu.source = .direct))
        = true := by decide +kernel

/-- 5.5, AFC following a drifting station: at +4 AFC_LOW raises AFC_LIMIT. -/
theorem test_afc_limit :
    leads (exec (.afcTimerExpiry true false) { tuned with tnu := { tuned.tnu with afc := 4 } })
      (fun t => decide (t.tnu.afc = 4 ∧ t.lku.latched = [.afcLimit])) = true := by decide +kernel

/-- 5.6, a search upward across a band gap: from 3,412 the first divider tested is 3,440. -/
theorem test_search_crosses_the_gap :
    leads (exec (.search 1 [0])
        { tuned with tnu := { tuned.tnu with base := some 3412, band := some .low } })
      (fun t => decide (t.tnu.base = some 3440 ∧ t.tnu.state = .searching)) = true := by
  decide +kernel

/-- The packet of 10.8: LABEL of source code 1,201 on line 16, of a grade, the label given and a status. -/
def labelPacket (grade status : Byte) : List Byte := [1, 16, grade, 1, 4, 0xB1, 14, 3, 20, 15, status]

/-- 6.2, a filter table and a burst: entry 0 forwards LABEL at CORRECTED and up, entry 2 drops the rest. -/
theorem test_filter_burst :
    let table : List (Option FilterEntry) :=
      [some ⟨16, 16, true, true, false, false, .corrected, .forwardSystem⟩,
        some ⟨7, 22, false, false, false, true, .bad, .forwardDisplay⟩,
        some ⟨6, 22, true, true, true, true, .bad, .drop⟩]
    lineAction table 16 .good .label = .forwardSystem ∧ lineAction table 16 .bad .label = .drop
      ∧ lineAction table 20 .bad .other = .forwardDisplay ∧ lineAction table 6 .good .other = .drop
      := by decide

/-- 6.5, a label followed through a break: the second agreeing line is taken. -/
theorem test_label_tracked :
    leads (exec (.dataLinePacket (labelPacket 0 0))
        { tuned with dlp := { tuned.dlp with proposal := some ⟨1201, some label, .soon⟩ } })
      (fun t => decide (t.dlp.tracker = .live 1201 (some label) .soon ∧ t.dlp.proposal = none))
        = true := by decide +kernel

/-- 7.1: 1-1-2000 was a Saturday, 14-3-2031 a Friday; 2000 has a leap day. -/
theorem test_calendar :
    (⟨1, 1, 2000, 0, 0, 0⟩ : DateTime).weekday = 5 ∧ (⟨14, 3, 2031, 0, 0, 0⟩ : DateTime).weekday = 4
      ∧ (⟨28, 2, 2000, 23, 59, 59⟩ : DateTime).advance = ⟨29, 2, 2000, 0, 0, 0⟩
      ∧ (⟨31, 12, 2099, 23, 59, 59⟩ : DateTime).advance = ⟨1, 1, 2000, 0, 0, 0⟩ := by decide

/-- 7.4, setting the clock from a station: a pair 12 s apart from the clock jumps it. -/
theorem test_broadcast_jump :
    leads (exec (.dataLinePacket [1, 16, 0, 0, 4, 0xB1, 15, 3, 31, 0, 45, 40, 2, 0])
        (clockAt ⟨15, 3, 2031, 1, 45, 28⟩ { tuned with dlp := { tuned.dlp with
          candidate := some ⟨(⟨15, 3, 2031, 1, 45, 10⟩ : DateTime).seconds, 12⟩ } }))
      (fun t => decide (t.cku.now = ⟨15, 3, 2031, 1, 45, 40⟩ ∧ t.cku.holdOff = 60
        ∧ t.cku.state = .broadcast)) = true := by decide +kernel

/-- 8.1, the moments of the LABEL record: trigger 20:10:00, wait deadline 22:15:00, stop 21:45:00. -/
theorem test_label_record_moments :
    labelRec.trigger Params.default = (⟨14, 3, 2031, 20, 10, 0⟩ : DateTime).seconds
      ∧ labelRec.waitDeadline Params.default = (⟨14, 3, 2031, 22, 15, 0⟩ : DateTime).seconds
      ∧ labelRec.stopMoment = (⟨14, 3, 2031, 21, 45, 0⟩ : DateTime).seconds := by decide +kernel

/-- 8.8, the clock set forward during a recording: slot 3 ends COMPLETE at 21:05:00. -/
theorem test_clock_set_past_the_stop :
    leads (exec (.clockSet 1 [14, 3, 31, 21, 5, 0])
        (clockAt ⟨14, 3, 2031, 20, 20, 0⟩
          (engagedWith { clockRec with
              state := .recording, actualStart := some (clockRec.start + 3), chosen := some .sp } (some 3)
            { playing with tc := { playing.tc with
                state := .record, goal := some ⟨.record, .record⟩, openRec := true, gate := true } })))
      (fun t => decide ((t.slot 3).lastResult = some .complete ∧ (t.slot 3).state = .ended
        ∧ t.pgt.claim = none ∧ (t.slot 3).actualStop
            = some (⟨14, 3, 2031, 21, 5, 0⟩ : DateTime).seconds)) = true := by decide +kernel

/-- 9.2, moving the record request to another line: the second LINE_ASSIGN is refused CONFLICT. -/
theorem test_line_conflict :
    leads (exec (.lineAssign 5 ⟨[6, 0, 19, 0, 1], .low⟩)
        { calm with lnu := { calm.lnu with
            lines := calm.lnu.lines.set 3 ⟨false, .extRecordRequest, false, .low⟩ } })
      (fun t => decide (t.lku.tx = some (.reply ⟨5, some .conflict, false, .none⟩))) = true := by
  decide +kernel

/-- 9.3, a blanking bit across two frames: the pulse applies the staged pattern. -/
theorem test_pattern_applied :
    leads (exec .internalFramePulse
        { calm with lnu := { calm.lnu with staged := ⟨false, false⟩, applied := ⟨true, false⟩ } })
      (fun t => decide (t.lnu.applied = ⟨false, false⟩ ∧ t.now = 33333)) = true := by decide +kernel

/-- 10.4, a queue under hold: a DECK_REQUEST while a reply waits is discarded and raises
REQUEST_OVERRUN. -/
theorem test_overrun :
    leads (exec (.deckRequest 2 [6, 0])
        { calm with lku := { calm.lku with
            hold := true, queue := [.reply ⟨1, none, false, .none⟩] } })
      (fun t => decide (t.lku.latched = [.requestOverrun] ∧ t.tc = calm.tc ∧ t.lku.tx = none))
        = true := by decide +kernel

/-- 10.1: the byte that makes the sum of all bytes 0 completes the packet: CLOCK_READ, tag 7. -/
theorem test_packet_check :
    leads (exec (.inboundByte ⟨0xA4, inputsAtReset⟩)
        { calm with lku := { calm.lku with rx := ⟨.check, 2, 2, [0x51, 7], some 1000⟩ } })
      (fun t => match t.lku.tx with
        | some (.reply r) => decide (r.tag = 7 ∧ r.reason = none)
        | _ => false) = true := by decide +kernel

/-- 11.3, an outage across two triggers: the slot whose deadline passed ends MISSED_POWER. -/
theorem test_warm_start_misses :
    leads (exec (.returnTimerExpiry { inputsAtReset with backupGood := true })
        (clockAt ⟨14, 3, 2031, 19, 40, 1⟩ { returning with pgt := { returning.pgt with
          engaged := true
          records := returning.pgt.records.set 3 { clockRec with
            start := (⟨14, 3, 2031, 19, 0, 0⟩ : DateTime).seconds, stopHour := 19, stopMinute := 30 } } }))
      (fun t => decide ((t.slot 4).lastResult = some .missedPower ∧ (t.slot 4).state = .ended
        ∧ t.lku.cause = .warm ∧ t.lku.latched = [.powerFail])) = true := by decide +kernel

/-- 10.8: the DIRECTORY_READ reply holds 40 payload bytes and the RECORD_READ reply 39; a frame adds
three bytes and its sum is 0 modulo 256 (R176). -/
theorem test_reply_bytes :
    let dir := Packet.reply ⟨9, none, false, .image (directoryImage calm.tau 0)⟩
    let rec16 := Packet.reply ⟨9, none, false,
      .image (recordImage calm.lku.params 16 (calm.slot 16))⟩
    dir.payload?.map List.length = some 40 ∧ rec16.payload?.map List.length = some 39
      ∧ dir.frame?.map byteSum = some 0 ∧ dir.sendTicks? = some 3440 := by decide +kernel


/-- The kinds of the reports in a queue, oldest first. -/
def reportKinds (q : List Packet) : List ReportKind :=
  q.filterMap (fun p => match p with
    | .report r => some r.kind
    | _ => none)

/-- R92, R122, R177: a tune changes the tuner first and then the live label tracker; their reports join in
that order. -/
theorem test_reports_join_in_the_order_of_the_changes :
    leads (exec (.tunePreset 1 [8])
        { tuned with
          tnu := { tuned.tnu with presets := tuned.tnu.presets.set 7 (some (station 5106 none)) }
          dlp := { tuned.dlp with tracker := .live 1201 (some label) .running }
          lku := { tuned.lku with hold := true } })
      (fun t => decide (reportKinds t.lku.queue = [.tuner, .timer])) = true := by decide +kernel

/-- R11, R49, R169: EJECTING arrives with its target replaced: the old record is discarded and a fresh one
made, and a line with CASSETTE_IN goes and comes back. -/
theorem test_line_report_of_a_level_that_comes_back :
    leads (exec (.sensorSettled (.cam (.code .c0)))
        { deckAt .ejecting (some ⟨.stop, .unthreadedStop⟩) .transit with
          lnu := { calm.lnu with lines := calm.lnu.lines.set 2 ⟨true, .cassetteIn, false, .high⟩ }
          lku := { calm.lku with hold := true } })
      (fun t => decide (lineLevel 2 t = .high ∧ t.tc.state = .accepting
        ∧ reportKinds t.lku.queue = [.transport, .tape, .line])) = true := by decide +kernel

/-- R82, R87: an entry takes the place of one that starts nearby: the number of entries has changed
twice. -/
theorem test_entry_in_anothers_place_is_reported :
    let s : State := { playing with tau := { playing.tau with
      record := some { tape with position := some 999, quality := .exact }
      directory := [⟨990, none, none, .found, none, none, none⟩] } }
    (enterRecording s).1.lku.wanted = [.tape]
      ∧ (enterRecording s).1.tau.directory.map DirEntry.start = [999] := by decide +kernel

/-- R91, R90, R177: the word begins before the tracker is reset: a band line's LINE joins ahead of TIMER. -/
theorem test_band_line_is_reported_before_the_tracker :
    leads (exec (.tunePreset 1 [8])
        { tuned with
          tnu := { tuned.tnu with presets := tuned.tnu.presets.set 7 (some (station 14544 none)) }
          dlp := { tuned.dlp with tracker := .live 1201 (some label) .running }
          lnu := { tuned.lnu with lines := tuned.lnu.lines.set 2 ⟨true, .bandUhf, false, .high⟩ }
          lku := { tuned.lku with hold := true } })
      (fun t => decide (t.tnu.bandOut = some .uhf
        ∧ reportKinds t.lku.queue = [.tuner, .line, .timer])) = true := by decide +kernel

/-- R12: a RECORD request at LP while a recording is open: the recording keeps its speed. -/
theorem test_speed_is_kept_back_while_a_recording_is_open :
    let s := deckAt .recordPause (some ⟨.recordPause, .recordPause⟩) (.code .c2)
    leads (exec (.deckRequest 1 [8, 1]) { s with tc := { s.tc with openRec := true } })
      (fun t => decide (t.tc.state = .engaging ∧ t.tc.recSpeed = .sp
        ∧ t.tc.heldSpeed = some .lp)) = true := by decide +kernel

/-- R195: a grant closes that recording in the lock wait: the next one takes the speed of the request. -/
theorem test_new_recording_takes_the_speed_of_its_request :
    let s := deckAt .engaging (some ⟨.record, .record⟩) (.code .c3)
    let t := (perform .tcClose
      { s with tc := { s.tc with openRec := true, lockWait := true, heldSpeed := some .lp } }).1
    t.tc.openRec = false ∧ t.svu.capStaged = some (.run false 2 1)
      ∧ (enter .record t).1.tc.recSpeed = .lp
      ∧ (enter .record t).1.tau.warnSpeed = .lp := by decide +kernel

/-- R146: step 4 comes after the DEFERRED records are served, so the ended slot has changed last. -/
theorem test_ended_slot_changes_last :
    let s := engagedWith { clockRec with state := .recording, phase := .go } (some 3)
      { deckAt .record (some ⟨.record, .record⟩) (.code .c3) with tnu := tuned.tnu }
    let waiting := { clockRec with state := .deferred, stopHour := 22 }
    leads (exec .secondPasses (clockAt ⟨14, 3, 2031, 20, 59, 59⟩
        { s with pgt := { s.pgt with records := s.pgt.records.set 4 waiting } }))
      (fun t => decide ((t.slot 3).state = .ended ∧ (t.slot 3).lastResult = some .complete
        ∧ t.pgt.claim = some 5 ∧ t.pgt.lastChanged = some 3)) = true := by decide +kernel

/-- R118, R121: a tracker of another code is reset, and the proposal goes with it. -/
theorem test_new_code_drops_the_proposal :
    let s := { calm with dlp := { calm.dlp with
      tracker := .live 1201 (some label) .running, proposal := some ⟨77, some label, .soon⟩ } }
    (expectCode 77 s).1.dlp.tracker = .noLabel ∧ (expectCode 77 s).1.dlp.proposal = none
      ∧ (expectCode 1201 s).1.dlp.tracker = s.dlp.tracker := by decide +kernel
/-! ### The statements' hypotheses -/

theorem witness_StepRunsFrontCommand_cycle :
    ∃ (s : State),
      s.pending = [] ∧ s.cku.prescaler < 32767 :=
  ⟨calm, by decide +kernel⟩

theorem witness_StepRunsFrontCommand_second :
    ∃ (s : State),
      s.pending = [] ∧ 32767 ≤ s.cku.prescaler :=
  ⟨{ calm with cku := { calm.cku with prescaler := 32767 } }, by decide +kernel⟩

theorem witness_GateLawHolds :
    ∃ s t : State, GateLaw s ∧ step s = .next t :=
  let s : State := { playing with
    tc := { playing.tc with state := .record, gate := true }, pending := [.secondPasses] }
  have h : GateLaw s := by unfold GateLaw; decide +kernel
  have ⟨t, ht⟩ := next_of_leads (o := step s) (by decide +kernel)
  ⟨s, t, h, ht⟩

theorem witness_RetryLawHolds :
    ∃ s t : State, RetryLaw s ∧ step s = .next t :=
  let s : State := { calm with
    tc := { calm.tc with state := .threading, retryCount := 2, moveTimer := some 5 }
    pending := [.moveTimeout] }
  have h : RetryLaw s := by unfold RetryLaw; decide +kernel
  have ⟨t, ht⟩ := next_of_leads (o := step s) (by decide +kernel)
  ⟨s, t, h, ht⟩

theorem witness_QueueLawHolds :
    ∃ s t : State, QueueLaw s ∧ step s = .next t :=
  let s : State := { State.reset with pending := [.secondPasses] }
  have h : QueueLaw s := by unfold QueueLaw; decide +kernel
  have ⟨t, ht⟩ := next_of_leads (o := step s) (by decide +kernel)
  ⟨s, t, h, ht⟩

theorem witness_LinesLawHolds :
    ∃ s t : State, LinesLaw s ∧ step s = .next t :=
  let s : State := { calm with
    lnu := { calm.lnu with lines := calm.lnu.lines.set 7 ⟨true, .recording, false, .low⟩ }
    pending := [.lineAssign 1 ⟨[6, 1, 1, 0, 0], .low⟩] }
  have h : LinesLaw s := by unfold LinesLaw; decide +kernel
  have ⟨t, ht⟩ := next_of_leads (o := step s) (by decide +kernel)
  ⟨s, t, h, ht⟩

theorem witness_DirectoryLawHolds :
    ∃ s t : State, DirectoryLaw s ∧ step s = .next t :=
  let s : State := { playing with
    tau := { playing.tau with directory :=
      [⟨10, some 20, none, .manual, none, none, none⟩, ⟨500, none, none, .found, none, none, none⟩] }
    pending := [.capstanFgPulse 3] }
  have h : DirectoryLaw s := by unfold DirectoryLaw; decide +kernel
  have ⟨t, ht⟩ := next_of_leads (o := step s) (by decide +kernel)
  ⟨s, t, h, ht⟩

theorem witness_OutageLawHolds :
    ∃ s t : State, OutageLaw s ∧ step s = .next t :=
  let s : State := { dark with pending := [.mainsFailDeassert] }
  have h : OutageLaw s := by unfold OutageLaw; decide +kernel
  have ⟨t, ht⟩ := next_of_leads (o := step s) (by decide +kernel)
  ⟨s, t, h, ht⟩

theorem witness_ClockLawHolds :
    ∃ s t : State, ClockLaw s ∧ step s = .next t :=
  let s : State := clockAt ⟨31, 12, 2099, 23, 59, 59⟩
    { calm with cku := { calm.cku with prescaler := 32767 } }
  have h : ClockLaw s := by unfold ClockLaw; decide +kernel
  have ⟨t, ht⟩ := next_of_leads (o := step s) (by decide +kernel)
  ⟨s, t, h, ht⟩

theorem witness_ClaimLawHolds :
    ∃ s t : State, ClaimLaw s ∧ step s = .next t ∧ s.pgt.claim = some 3 :=
  let s : State :=
    { engagedWith { labelRec with state := .watching } (some 3)
        { tuned with tnu := { tuned.tnu with owner := .timer } } with
      pending := [.secondPasses] }
  have ⟨t, ht⟩ := next_of_leads (o := step s) (by decide +kernel)
  ⟨s, t, ⟨by decide +kernel, by decide +kernel, by decide +kernel,
    fun n hn p hp => by
      obtain rfl : 3 = n := Option.some.inj hn
      obtain rfl : 7 = p := Source.preset.inj hp
      decide +kernel,
    fun _ => ⟨3, by decide +kernel, by decide +kernel⟩, by unfold ScanLaw; decide +kernel⟩, ht, by decide +kernel⟩

theorem witness_LockedOutIsKept :
    ∃ (c : Instr) (s t : State), s.tc.state = .lockedOut ∧ exec c s = .next t
      ∧ c = .unknownRequest 0x7A 1 [1] :=
  have ⟨t, ht⟩ := next_of_leads (o := exec (.unknownRequest 0x7A 1 [1]) (deckAt .lockedOut none .transit))
    (by decide +kernel)
  ⟨_, _, t, rfl, ht, rfl⟩

theorem witness_RequestsTurnedAway_waiting :
    ∃ (s : State) (c : Instr),
      s.lku.supply = .mains ∧ replyWaiting s = true ∧ (requestOf c).isSome = true :=
  ⟨{ calm with
      lku := { calm.lku with hold := true, queue := [.reply ⟨1, none, false, .none⟩] } },
    .cueMark 4 [],
    by decide +kernel⟩

theorem witness_RequestsTurnedAway_being_sent :
    ∃ (s : State) (r : Reply),
      s.ready ∧ s.lku.tx = some (.reply r) :=
  ⟨{ calm with lku := { calm.lku with tx := some (.reply ⟨1, none, false, .none⟩) } },
    ⟨1, none, false, .none⟩,
    by decide +kernel⟩

theorem witness_RequestsTurnedAway_length :
    ∃ (s : State) (p : List Byte),
      s.ready ∧ requestOf (.cassetteEntryWrite 3 p) = some (3, p, 19) ∧ p.length ≠ 19 :=
  ⟨calm, List.replicate 18 0, by decide +kernel⟩

theorem witness_RequestsTurnedAway_name :
    calm.ready ∧ ∀ c, requestName c ≠ some 0x7C :=
  ⟨by decide +kernel, fun c => by cases c <;> simp [requestName]⟩

theorem witness_RequestNamesReachTheirOwners :
    ∃ (s : State) (b : Byte),
      s.ready ∧ 2 ≤ b.toNat ∧ requestOf (.parameterRead 3 [1]) = some (3, [1], 1)
      ∧ requestName (.parameterRead 3 [1]) = some 0x7A :=
  ⟨calm, 2, by decide +kernel⟩

theorem witness_RequestNamesReachTheirOwners_line :
    ∃ (s : State) (p : AssignParams),
      requestOf (.lineAssign 3 p) = some (3, p.bytes, 5) ∧ requestName (.lineAssign 3 p) = some 0x70
      ∧ p.pin = s.pinOf (byteAt p.bytes 0) :=
  ⟨calm, ⟨[7, 1, 1, 0, 0], calm.pinOf 7⟩, by decide +kernel⟩

theorem witness_QueriesChangeNothing_cassette :
    ∃ (s : State) (r : Cassette) (b : Byte),
      s.ready ∧ s.tau.record = some r ∧ 15 < b.toNat :=
  ⟨playing, tape, 16, by decide +kernel⟩

theorem witness_QueriesChangeNothing_empty :
    ∃ (s : State) (b : Byte),
      s.ready ∧ s.tau.record = none ∧ b.toNat = 60 :=
  ⟨tuned, 60, by decide +kernel⟩

theorem witness_SettledSensorsAct_same :
    ∃ (r : SensorReading) (s : State),
      s.lku.supply = .mains ∧ settledReading r s.tc.sensors = r :=
  ⟨.dew false, calm, by decide +kernel⟩

theorem witness_SettledSensorsAct_new :
    ∃ (s : State),
      s.lku.supply = .mains ∧ settledReading (.cam .transit) s.tc.sensors ≠ .cam .transit
      ∧ followsNothing (.cam .transit) s.tc.state :=
  ⟨deckAt .threadedStop none (.code .c2), by unfold followsNothing; decide +kernel⟩

theorem witness_SettledSensorsAct_cassette :
    ∃ (s : State),
      s.lku.supply = .mains ∧ s.plain ∧ s.tc.state = .empty ∧ s.tc.sensors.cam = .code .c0
      ∧ s.tc.sensors.cassette = false :=
  ⟨calm, by decide +kernel⟩

theorem witness_SettledSensorsAct_dew_threaded :
    ∃ (s : State),
      s.lku.supply = .mains ∧ s.tc.sensors.dew = false ∧ s.plain ∧ s.tc.state = .play ∧ s.tc.sensors.cam = .code .c3 :=
  ⟨playing, by decide +kernel⟩

theorem witness_SettledSensorsAct_dew_unthreaded :
    ∃ (s : State),
      s.lku.supply = .mains ∧ s.tc.sensors.dew = false ∧ s.tc.state = .empty :=
  ⟨calm, by decide +kernel⟩

theorem witness_CamMoveArrives_c2 :
    ∃ (s : State),
      s.lku.supply = .mains ∧ s.plain ∧ s.tc.retry = .none ∧ s.tc.state = .threading
      ∧ s.tc.goal.map Goal.dest = some .threadedStop ∧ s.tc.sensors.cam ≠ .code .c2 :=
  ⟨deckAt .threading (some ⟨.stop, .threadedStop⟩) .transit, by decide +kernel⟩

theorem witness_CamMoveArrives_c1 :
    ∃ (s : State),
      s.lku.supply = .mains ∧ s.plain ∧ s.tc.retry = .none ∧ s.tc.state = .unthreading
      ∧ s.tc.goal.map Goal.dest = some .unthreadedStop ∧ s.tc.sensors.cam ≠ .code .c1 :=
  ⟨deckAt .unthreading (some ⟨.stop, .unthreadedStop⟩) .transit, by decide +kernel⟩

theorem witness_BotStopsTheWindAndFixesZero :
    ∃ (s : State) (r : Cassette),
      s.lku.supply = .mains ∧ s.plain ∧ s.tc.state = .windRev ∧ s.tc.sensors.bot = false
      ∧ s.tau.record = some r :=
  ⟨deckAt .windRev (some ⟨.windRev, .windRev⟩) (.code .c1), tape, by decide +kernel⟩

theorem witness_MoveTimeoutHaltsThenLocksOut_count0 :
    ∃ (s : State) (due : Tick),
      s.lku.supply = .mains ∧ s.tc.lockWait = false ∧ s.pgt.claim = none ∧ s.tc.gate = false
      ∧ s.tc.state.transient = true ∧ s.tc.moveTimer = some due ∧ s.tc.retryCount = 0 :=
  ⟨{ deckAt .threading (some ⟨.play, .play⟩) .transit with
      tc := { (deckAt .threading (some ⟨.play, .play⟩) .transit).tc with
        retryCount := 0
        moveTimer := some 4000000 } },
    4000000,
    by decide +kernel⟩

theorem witness_MoveTimeoutHaltsThenLocksOut_count1 :
    ∃ (s : State) (due : Tick),
      s.lku.supply = .mains ∧ s.tc.lockWait = false ∧ s.pgt.claim = none ∧ s.tc.gate = false
      ∧ s.tc.state.transient = true ∧ s.tc.moveTimer = some due ∧ s.tc.retryCount = 1 :=
  ⟨{ deckAt .threading (some ⟨.play, .play⟩) .transit with
      tc := { (deckAt .threading (some ⟨.play, .play⟩) .transit).tc with
        retryCount := 1
        moveTimer := some 4000000 } },
    4000000,
    by decide +kernel⟩

theorem witness_MoveTimeoutHaltsThenLocksOut_count2 :
    ∃ (s : State) (due : Tick),
      s.lku.supply = .mains ∧ s.tc.lockWait = false ∧ s.pgt.claim = none ∧ s.tc.gate = false
      ∧ s.tc.state.transient = true ∧ s.tc.moveTimer = some due ∧ s.tc.retryCount = 2 :=
  ⟨{ deckAt .threading (some ⟨.play, .play⟩) .transit with
      tc := { (deckAt .threading (some ⟨.play, .play⟩) .transit).tc with
        retryCount := 2
        moveTimer := some 4000000 } },
    4000000,
    by decide +kernel⟩

theorem witness_HaltedTimerRecovers_c3 :
    ∃ (s : State) (due : Tick),
      s.lku.supply = .mains ∧ s.pgt.claim = none ∧ s.tc.state = .halted ∧ s.tc.retry = .none
      ∧ s.tc.haltedTimer = some due ∧ s.tc.sensors.cam = .code .c3 :=
  ⟨{ deckAt .halted (none) (.code .c3) with
      tc := { (deckAt .halted (none) (.code .c3)).tc with
        haltedTimer := some 1000000
        interrupted := none } },
    1000000,
    by decide +kernel⟩

theorem witness_HaltedTimerRecovers_c2 :
    ∃ (s : State) (due : Tick),
      s.lku.supply = .mains ∧ s.pgt.claim = none ∧ s.tc.state = .halted ∧ s.tc.retry = .none
      ∧ s.tc.haltedTimer = some due ∧ s.tc.sensors.cam = .code .c2 :=
  ⟨{ deckAt .halted (some ⟨.play, .play⟩) (.code .c2) with
      tc := { (deckAt .halted (some ⟨.play, .play⟩) (.code .c2)).tc with
        haltedTimer := some 1000000
        interrupted := none } },
    1000000,
    by decide +kernel⟩

theorem witness_HaltedTimerRecovers_c1 :
    ∃ (s : State) (due : Tick),
      s.lku.supply = .mains ∧ s.pgt.claim = none ∧ s.tc.state = .halted ∧ s.tc.retry = .none
      ∧ s.tc.haltedTimer = some due ∧ s.tc.sensors.cam = .code .c1 ∧ s.tc.goal = some ⟨.eject, .empty⟩ :=
  ⟨{ deckAt .halted (some ⟨.eject, .empty⟩) (.code .c1) with
      tc := { (deckAt .halted (some ⟨.eject, .empty⟩) (.code .c1)).tc with
        haltedTimer := some 1000000
        interrupted := none } },
    1000000,
    by decide +kernel⟩

theorem witness_HaltedTimerRecovers_c1_stop :
    ∃ (s : State) (due : Tick),
      s.lku.supply = .mains ∧ s.pgt.claim = none ∧ s.tc.state = .halted ∧ s.tc.retry = .none
      ∧ s.tc.haltedTimer = some due ∧ s.tc.sensors.cam = .code .c1 ∧ s.tc.goal = some ⟨.stop, .unthreadedStop⟩ :=
  ⟨{ deckAt .halted (some ⟨.stop, .unthreadedStop⟩) (.code .c1) with
      tc := { (deckAt .halted (some ⟨.stop, .unthreadedStop⟩) (.code .c1)).tc with
        haltedTimer := some 1000000
        interrupted := none } },
    1000000,
    by decide +kernel⟩

theorem witness_HaltedTimerRecovers_c0 :
    ∃ (s : State) (due : Tick),
      s.lku.supply = .mains ∧ s.pgt.claim = none ∧ s.tc.state = .halted ∧ s.tc.retry = .none
      ∧ s.tc.haltedTimer = some due ∧ s.tc.sensors.cam = .code .c0 :=
  ⟨{ deckAt .halted (none) (.code .c0) with
      tc := { (deckAt .halted (none) (.code .c0)).tc with
        haltedTimer := some 1000000
        interrupted := none } },
    1000000,
    by decide +kernel⟩

theorem witness_HaltedTimerRecovers_transit :
    ∃ (s : State) (due : Tick),
      s.lku.supply = .mains ∧ s.pgt.claim = none ∧ s.tc.state = .halted ∧ s.tc.retry = .none
      ∧ s.tc.haltedTimer = some due ∧ s.tc.sensors.cam = .transit
      ∧ s.tc.interrupted = none :=
  ⟨{ deckAt .halted (none) (.transit) with
      tc := { (deckAt .halted (none) (.transit)).tc with
        haltedTimer := some 1000000
        interrupted := none } },
    1000000,
    by decide +kernel⟩

theorem witness_HaltedTimerRecovers_transit_engaging :
    ∃ (s : State) (due : Tick),
      s.lku.supply = .mains ∧ s.pgt.claim = none ∧ s.tc.state = .halted ∧ s.tc.retry = .none
      ∧ s.tc.haltedTimer = some due ∧ s.tc.sensors.cam = .transit
      ∧ s.tc.interrupted = some .engaging :=
  ⟨{ deckAt .halted (none) (.transit) with
      tc := { (deckAt .halted (none) (.transit)).tc with
        haltedTimer := some 1000000
        interrupted := some .engaging } },
    1000000,
    by decide +kernel⟩

theorem witness_HaltedTimerRecovers_transit_ejecting :
    ∃ (s : State) (due : Tick),
      s.lku.supply = .mains ∧ s.pgt.claim = none ∧ s.tc.state = .halted ∧ s.tc.retry = .none
      ∧ s.tc.haltedTimer = some due ∧ s.tc.sensors.cam = .transit
      ∧ s.tc.interrupted = some .ejecting :=
  ⟨{ deckAt .halted (some ⟨.eject, .empty⟩) (.transit) with
      tc := { (deckAt .halted (some ⟨.eject, .empty⟩) (.transit)).tc with
        haltedTimer := some 1000000
        interrupted := some .ejecting } },
    1000000,
    by decide +kernel⟩

theorem witness_LoadingRetryRepeatsTheMove_cam_kept :
    ∃ (s : State) (due : Tick),
      s.lku.supply = .mains ∧ s.pgt.claim = none ∧ s.tc.startUp = false ∧ s.tc.state = .halted
      ∧ s.tc.retry = .pending ∧ s.tc.haltedTimer = some due ∧ s.mdu.loading.state ≠ .latchedOff
      ∧ s.tc.failedMove = some .threading ∧ moveOf .threading = some (.c1, .c2)
      ∧ s.tc.sensors.cam = .code .c1 :=
  ⟨{ deckAt .halted none (.code .c1) with
      tc := { (deckAt .halted none (.code .c1)).tc with
        haltedTimer := some 1000000
        retry := .pending
        failedMove := some .threading
        retryCount := 1 } },
    1000000,
    by decide +kernel⟩

theorem witness_LoadingRetryRepeatsTheMove_cam_between :
    ∃ (s : State) (due : Tick),
      s.lku.supply = .mains ∧ s.pgt.claim = none ∧ s.tc.startUp = false ∧ s.tc.state = .halted
      ∧ s.tc.retry = .pending ∧ s.tc.haltedTimer = some due ∧ s.mdu.loading.state ≠ .latchedOff
      ∧ s.tc.failedMove = some .threading ∧ moveOf .threading = some (.c1, .c2)
      ∧ s.tc.sensors.cam = .transit :=
  ⟨{ deckAt .halted none (.transit) with
      tc := { (deckAt .halted none (.transit)).tc with
        haltedTimer := some 1000000
        retry := .pending
        failedMove := some .threading
        retryCount := 1 } },
    1000000,
    by decide +kernel⟩

theorem witness_LoadingRetryRepeatsTheMove_cam_at_target :
    ∃ (s : State) (due : Tick),
      s.lku.supply = .mains ∧ s.pgt.claim = none ∧ s.tc.startUp = false ∧ s.tc.state = .halted
      ∧ s.tc.retry = .pending ∧ s.tc.haltedTimer = some due ∧ s.mdu.loading.state ≠ .latchedOff
      ∧ s.tc.failedMove = some .threading ∧ moveOf .threading = some (.c1, .c2)
      ∧ s.tc.sensors.cam = .code .c2 :=
  ⟨{ deckAt .halted none (.code .c2) with
      tc := { (deckAt .halted none (.code .c2)).tc with
        haltedTimer := some 1000000
        retry := .pending
        failedMove := some .threading
        retryCount := 1 } },
    1000000,
    by decide +kernel⟩

theorem witness_LoadingRetryRepeatsTheMove_latched :
    ∃ (s : State) (due : Tick),
      s.lku.supply = .mains ∧ s.tc.state = .halted ∧ s.tc.retry = .pending ∧ s.tc.haltedTimer = some due
      ∧ s.mdu.loading.state = .latchedOff :=
  ⟨{ ({ deckAt .halted none .transit with
         tc := { (deckAt .halted none .transit).tc with
           haltedTimer := some 1000000
           retry := .pending
           failedMove := some .threading
           retryCount := 1 } }) with
      mdu := { calm.mdu with loading := { calm.mdu.loading with state := .latchedOff } } },
    1000000,
    by decide +kernel⟩

theorem witness_LoadingRetryRepeatsTheMove_decay :
    ∃ (s : State) (due : Tick),
      s.lku.supply = .mains ∧ s.tc.state ≠ .lockedOut ∧ s.tc.decayTimer = some due :=
  ⟨{ playing with tc := { playing.tc with decayTimer := some 60000000, retryCount := 2 } },
    60000000,
    by decide +kernel⟩

theorem witness_ReelStallHalts_play :
    ∃ (s : State) (due : Tick),
      s.lku.supply = .mains ∧ s.pgt.claim = none ∧ s.tc.state ∉ [.halted, .lockedOut, .powerDown]
      ∧ motorsRun s = true ∧ (s.tc.gate = true → s.tc.state = .record) ∧ s.tc.stallTimer = some due :=
  ⟨{ playing with tc := { playing.tc with stallTimer := some 3000000 } },
    3000000,
    by decide +kernel⟩

theorem witness_ReelStallHalts_recording :
    ∃ (s : State) (due : Tick),
      s.lku.supply = .mains ∧ s.pgt.claim = none ∧ s.tc.state ∉ [.halted, .lockedOut, .powerDown]
      ∧ motorsRun s = true ∧ (s.tc.gate = true → s.tc.state = .record) ∧ s.tc.stallTimer = some due :=
  ⟨{ playing with
      tc := { playing.tc with
        stallTimer := some 3000000
        state := .record
        gate := true
        openRec := true } },
    3000000,
    by decide +kernel⟩

theorem witness_TransportLimitsAct_idle :
    ∃ (s : State) (due : Tick),
      s.lku.supply = .mains ∧ s.plain ∧ s.tc.state = .threadedStop ∧ s.tc.sensors.cam = .code .c2
      ∧ s.tc.idleTimer = some due :=
  ⟨{ deckAt .threadedStop (some ⟨.stop, .threadedStop⟩) (.code .c2) with
      tc := { (deckAt .threadedStop (some ⟨.stop, .threadedStop⟩) (.code .c2)).tc with
        idleTimer := some 7 } },
    7,
    by decide +kernel⟩

theorem witness_TransportLimitsAct_still :
    ∃ (s : State) (due : Tick),
      s.lku.supply = .mains ∧ s.plain ∧ s.tc.state = .still ∧ s.tc.sensors.cam = .code .c3
      ∧ s.tc.pauseTimer = some due :=
  ⟨{ deckAt .still (some ⟨.still, .still⟩) (.code .c3) with
      tc := { (deckAt .still (some ⟨.still, .still⟩) (.code .c3)).tc with
        pauseTimer := some 7 } },
    7,
    by decide +kernel⟩

theorem witness_TransportLimitsAct_record_pause :
    ∃ (s : State) (due : Tick),
      s.lku.supply = .mains ∧ s.plain ∧ s.tc.state = .recordPause ∧ s.tc.pauseTimer = some due :=
  ⟨{ deckAt .recordPause (some ⟨.recordPause, .recordPause⟩) (.code .c2) with
      tc := { (deckAt .recordPause (some ⟨.recordPause, .recordPause⟩) (.code .c2)).tc with
        pauseTimer := some 7
        openRec := true } },
    7,
    by decide +kernel⟩

theorem witness_TransportLimitsAct_lock_wait :
    ∃ (s : State) (due : Tick),
      s.lku.supply = .mains ∧ s.tc.startUp = false ∧ s.pgt.claim = none
      ∧ s.lku.params.classServoUnlock = .warning ∧ s.tc.sensors.cam = .code .c3
      ∧ s.tc.state = .engaging ∧ s.tc.lockWait = true ∧ s.tc.lockTimer = some due :=
  ⟨{ deckAt .engaging (some ⟨.record, .record⟩) (.code .c3) with
      tc := { (deckAt .engaging (some ⟨.record, .record⟩) (.code .c3)).tc with
        lockTimer := some 7
        lockWait := true } },
    7,
    by decide +kernel⟩

theorem witness_TransportLimitsAct_record_lock :
    ∃ (s : State) (due : Tick),
      s.lku.supply = .mains ∧ s.tc.startUp = false ∧ s.pgt.claim = none
      ∧ s.lku.params.classServoUnlock = .warning ∧ s.tc.sensors.cam = .code .c3
      ∧ s.tc.state = .record ∧ s.tc.lockWait = false ∧ s.tc.recordLockTimer = some due :=
  ⟨{ playing with
      tc := { playing.tc with
        recordLockTimer := some 7
        state := .record
        gate := true
        openRec := true
        goal := some ⟨.record, .record⟩ } },
    7,
    by decide +kernel⟩

theorem witness_DeckRequestTestsInOrder_halted :
    ∃ (s : State) (p : List Byte),
      s.ready ∧ p.length = 2 ∧ s.tc.state = .halted :=
  ⟨deckAt .halted none .transit, [6, 0], by decide +kernel⟩

theorem witness_DeckRequestTestsInOrder_locked_out :
    ∃ (s : State) (p : List Byte),
      s.ready ∧ p.length = 2 ∧ s.tc.state = .lockedOut ∧ targetOf (byteAt p 0) ≠ some .eject :=
  ⟨deckAt .lockedOut none .transit, [6, 0], by decide +kernel⟩

theorem witness_DeckRequestTestsInOrder_engaged :
    ∃ (s : State) (p : List Byte),
      s.ready ∧ p.length = 2 ∧ s.pgt.engaged = true ∧ s.tc.state = .unthreadedStop :=
  ⟨{ deckAt .unthreadedStop (some ⟨.stop, .unthreadedStop⟩) (.code .c1) with
      pgt := { (deckAt .unthreadedStop (some ⟨.stop, .unthreadedStop⟩) (.code .c1)).pgt with
        engaged := true } },
    [6, 0],
    by decide +kernel⟩

theorem witness_DeckRequestTestsInOrder_bad_target :
    ∃ (s : State) (p : List Byte),
      s.ready ∧ p.length = 2 ∧ targetOf (byteAt p 0) = none ∧ s.pgt.engaged = false :=
  ⟨deckAt .unthreadedStop (some ⟨.stop, .unthreadedStop⟩) (.code .c1), [11, 0], by decide +kernel⟩

theorem witness_DeckRequestTestsInOrder_bad_speed :
    ∃ (s : State) (p : List Byte),
      s.ready ∧ p.length = 2 ∧ targetOf (byteAt p 0) = some .record ∧ speedCode (byteAt p 1) = none :=
  ⟨deckAt .unthreadedStop (some ⟨.stop, .unthreadedStop⟩) (.code .c1), [8, 3], by decide +kernel⟩

theorem witness_DeckRequestTestsInOrder_no_cassette :
    ∃ (s : State) (p : List Byte),
      s.ready ∧ p.length = 2 ∧ s.tc.state = .empty ∧ s.tc.sensors.cassette = false :=
  ⟨calm, [6, 0], by decide +kernel⟩

theorem witness_DeckRequestTestsInOrder_protected :
    ∃ (s : State) (p : List Byte),
      s.ready ∧ p.length = 2 ∧ s.tau.record.map Cassette.tab = some .no :=
  ⟨{ (deckAt .unthreadedStop (some ⟨.stop, .unthreadedStop⟩) (.code .c1)) with
      tau := { calm.tau with record := some { tape with tab := .no } } },
    [8, 0],
    by decide +kernel⟩

theorem witness_DeckRequestTestsInOrder_dew :
    ∃ (s : State) (p : List Byte),
      s.ready ∧ p.length = 2 ∧ s.tc.sensors.dew = true ∧ s.tc.state = .unthreadedStop :=
  ⟨{ deckAt .unthreadedStop (some ⟨.stop, .unthreadedStop⟩) (.code .c1) with
      tc := { (deckAt .unthreadedStop (some ⟨.stop, .unthreadedStop⟩) (.code .c1)).tc with
        sensors := ⟨.code .c1, true, true, true, false, false⟩ } },
    [6, 0],
    by decide +kernel⟩

theorem witness_DeckRequestTestsInOrder_tape_end :
    ∃ (s : State) (p : List Byte),
      s.ready ∧ p.length = 2 ∧ s.tc.sensors.eot = true ∧ s.tc.state = .unthreadedStop :=
  ⟨{ deckAt .unthreadedStop (some ⟨.stop, .unthreadedStop⟩) (.code .c1) with
      tc := { (deckAt .unthreadedStop (some ⟨.stop, .unthreadedStop⟩) (.code .c1)).tc with
        sensors := ⟨.code .c1, true, true, false, false, true⟩ } },
    [2, 0],
    by decide +kernel⟩

theorem witness_DeckRequestTestsInOrder_latched :
    ∃ (s : State) (p : List Byte),
      s.ready ∧ p.length = 2 ∧ s.mdu.drum.state = .latchedOff ∧ s.tc.state = .unthreadedStop :=
  ⟨{ (deckAt .unthreadedStop (some ⟨.stop, .unthreadedStop⟩) (.code .c1)) with
      mdu := { calm.mdu with drum := { calm.mdu.drum with state := .latchedOff } } },
    [6, 0],
    by decide +kernel⟩

theorem witness_DeckRequestTestsInOrder_taken :
    ∃ (s : State) (p : List Byte),
      s.ready ∧ p.length = 2 ∧ s.tc.state = .unthreadedStop ∧ targetOf (byteAt p 0) = some .searchRev :=
  ⟨deckAt .unthreadedStop (some ⟨.stop, .unthreadedStop⟩) (.code .c1), [10, 0], by decide +kernel⟩

theorem witness_DeckRequestTestsInOrder_transient :
    ∃ (s : State) (p : List Byte),
      s.ready ∧ p.length = 2 ∧ s.tc.state.transient = true ∧ s.tc.lockWait = false
      ∧ targetOf (byteAt p 0) = some .stop :=
  ⟨deckAt .unthreading (some ⟨.unthread, .unthreadedStop⟩) .transit, [4, 0], by decide +kernel⟩

theorem witness_DeckAndTapeRequestsAct_play :
    ∃ (s : State),
      s.ready ∧ s.plain ∧ s.pgt.engaged = false ∧ s.tc.sensors.dew = false
      ∧ s.tc.sensors.eot = false ∧ (∀ c ∈ Channel.all, (s.mdu.motor c).state ≠ .latchedOff)
      ∧ s.tc.state = .unthreadedStop ∧ s.tc.sensors.cam = .code .c1 :=
  ⟨deckAt .unthreadedStop (some ⟨.stop, .unthreadedStop⟩) (.code .c1), by decide +kernel⟩

theorem witness_DeckAndTapeRequestsAct_seek1 :
    ∃ (s : State) (n : Byte),
      s.ready ∧ s.plain ∧ s.pgt.engaged = false ∧ s.tc.sensors.dew = false
      ∧ s.tc.sensors.eot = false ∧ (∀ c ∈ Channel.all, (s.mdu.motor c).state ≠ .latchedOff)
      ∧ s.tc.state = .threadedStop ∧ s.tc.sensors.cam = .code .c2
      ∧ 1 ≤ n.toNat ∧ n.toNat ≤ 20 :=
  ⟨deckAt .threadedStop (some ⟨.stop, .threadedStop⟩) (.code .c2), 1, by decide +kernel⟩

theorem witness_DeckAndTapeRequestsAct_seek20 :
    ∃ (s : State) (n : Byte),
      s.ready ∧ s.plain ∧ s.pgt.engaged = false ∧ s.tc.sensors.dew = false
      ∧ s.tc.sensors.eot = false ∧ (∀ c ∈ Channel.all, (s.mdu.motor c).state ≠ .latchedOff)
      ∧ s.tc.state = .threadedStop ∧ s.tc.sensors.cam = .code .c2
      ∧ 1 ≤ n.toNat ∧ n.toNat ≤ 20 :=
  ⟨deckAt .threadedStop (some ⟨.stop, .threadedStop⟩) (.code .c2), 20, by decide +kernel⟩

theorem witness_DeckAndTapeRequestsAct_stop :
    ∃ (s : State),
      s.ready ∧ s.plain ∧ s.pgt.engaged = false ∧ s.tc.sensors.dew = false
      ∧ s.tc.sensors.eot = false ∧ (∀ c ∈ Channel.all, (s.mdu.motor c).state ≠ .latchedOff)
      ∧ s.tc.state = .threadedStop :=
  ⟨deckAt .threadedStop (some ⟨.stop, .threadedStop⟩) (.code .c2), by decide +kernel⟩

theorem witness_DeckAndTapeRequestsAct_seek_refused :
    ∃ (s : State) (n : Byte),
      s.ready ∧ s.plain ∧ s.pgt.engaged = false ∧ s.tc.sensors.dew = false
      ∧ s.tc.sensors.eot = false ∧ (∀ c ∈ Channel.all, (s.mdu.motor c).state ≠ .latchedOff)
      ∧ 20 < n.toNat :=
  ⟨deckAt .threadedStop (some ⟨.stop, .threadedStop⟩) (.code .c2), 21, by decide +kernel⟩

theorem witness_DeckAndTapeRequestsAct_marks :
    ∃ (s : State),
      s.ready :=
  ⟨playing, by decide +kernel⟩

theorem witness_DeckAndTapeRequestsAct_marks_recording :
    ∃ (s : State),
      s.ready ∧ s.tc.state = .record :=
  ⟨{ playing with tc := { playing.tc with state := .record } }, by decide +kernel⟩

theorem witness_CassetteEntryWriteWritesTheTable_no_slot :
    ∃ (s : State) (p : List Byte),
      s.ready ∧ p.length = 19 ∧ s.tau.table.length = 8
      ∧ 7 < byteAt p 0 :=
  ⟨calm,
    [8, 0] ++ [84, 49, 50, 48, 1, 0, 14, 172, 128, 0, 0, 62, 128, 1, 40, 70, 80],
    by decide +kernel⟩

theorem witness_CassetteEntryWriteWritesTheTable_bad_state :
    ∃ (s : State) (p : List Byte),
      s.ready ∧ p.length = 19 ∧ s.tau.table.length = 8
      ∧ 1 < byteAt p 1 :=
  ⟨calm,
    [7, 2] ++ [84, 49, 50, 48, 1, 0, 14, 172, 128, 0, 0, 62, 128, 1, 40, 70, 80],
    by decide +kernel⟩

theorem witness_CassetteEntryWriteWritesTheTable_bad_fields :
    ∃ (s : State) (p : List Byte),
      s.ready ∧ p.length = 19 ∧ s.tau.table.length = 8
      ∧ entryOperand p = none :=
  ⟨calm, [0, 1] ++ List.replicate 17 0, by decide +kernel⟩

theorem witness_CassetteEntryWriteWritesTheTable_bad_hub :
    ∃ (s : State) (p : List Byte),
      s.ready ∧ p.length = 19 ∧ s.tau.table.length = 8
      ∧ (entryOperand p).any (fun e => decide (e.kNom ≤ 2 * e.hub ^ 2)) = true :=
  ⟨calm,
    [7, 1] ++ [84, 49, 50, 48, 1, 0, 0, 0, 128, 0, 0, 62, 128, 1, 40, 70, 80],
    by decide +kernel⟩

theorem witness_CassetteEntryWriteWritesTheTable_stored :
    ∃ (s : State) (p : List Byte),
      s.ready ∧ p.length = 19 ∧ s.tau.table.length = 8
      ∧ s.tau.record = none ∧ (entryOperand p).isSome = true :=
  ⟨calm,
    [7, 1] ++ [84, 49, 50, 48, 1, 0, 14, 172, 128, 0, 0, 62, 128, 1, 40, 70, 80],
    by decide +kernel⟩

theorem witness_CassetteEntryWriteWritesTheTable_cleared :
    ∃ (s : State) (p : List Byte),
      s.ready ∧ p.length = 19 ∧ s.tau.table.length = 8
      ∧ s.tau.record.map Cassette.cls = some .unknown ∧ byteAt p 1 = 0 :=
  ⟨{ playing with tau := { playing.tau with record := some tape } },
    [7, 0] ++ [84, 49, 50, 48, 1, 0, 14, 172, 128, 0, 0, 62, 128, 1, 40, 70, 80],
    by decide +kernel⟩

theorem witness_CassetteEntryWriteWritesTheTable_class :
    ∃ (s : State) (p : List Byte) (r : Cassette),
      s.ready ∧ p.length = 19 ∧ s.tau.table.length = 8
      ∧ s.pgt.claim = none ∧ s.tau.record = some r ∧ r.cls = .index 7 ∧ byteAt p 0 = 7 :=
  ⟨{ playing with
      tau := { playing.tau with
        record :=
          some
            { tape with
              cls := .index 7
              k := some 961664
              quality := .estimated
              position := some 500 } } },
    [7, 1] ++ [84, 49, 50, 48, 1, 0, 14, 172, 128, 0, 0, 62, 128, 1, 40, 70, 80],
    { tape with cls := .index 7, k := some 961664, quality := .estimated, position := some 500 },
    by decide +kernel⟩

theorem witness_CassetteEntryWriteWritesTheTable_class_cleared :
    ∃ (s : State) (p : List Byte) (r : Cassette),
      s.ready ∧ p.length = 19 ∧ s.tau.table.length = 8
      ∧ s.pgt.claim = none ∧ s.tau.record = some r ∧ r.cls = .index 7 ∧ byteAt p 0 = 7 :=
  ⟨{ playing with
      tau := { playing.tau with
        record :=
          some
            { tape with
              cls := .index 7
              k := some 961664
              quality := .estimated
              position := some 500 } } },
    [7, 0] ++ [84, 49, 50, 48, 1, 0, 14, 172, 128, 0, 0, 62, 128, 1, 40, 70, 80],
    { tape with cls := .index 7, k := some 961664, quality := .estimated, position := some 500 },
    by decide +kernel⟩

theorem witness_CassetteEntryWriteWritesTheTable_none_fits :
    ∃ (s : State) (p : List Byte) (r : Cassette) (k : Nat),
      s.ready ∧ p.length = 19 ∧ s.tau.table.length = 8
      ∧ s.pgt.claim = none ∧ s.tau.record = some r ∧ r.cls = .unclassified
      ∧ r.k = some k ∧ chooseEntry s.field k (s.tau.table.set 7 (entryOperand p)) = none :=
  ⟨{ playing with
      tau := { playing.tau with
        record :=
          some
            { tape with
              cls := .unclassified
              k := some 5
              samples := [961664, 961664, 961664, 961664]
              quality := .exact
              position := some 9000000 } } },
    [7, 1] ++ [84, 49, 50, 48, 1, 0, 14, 172, 128, 0, 0, 62, 128, 1, 40, 70, 80],
    { tape with
      cls := .unclassified
      k := some 5
      samples := [961664, 961664, 961664, 961664]
      quality := .exact
      position := some 9000000 },
    5,
    by decide +kernel⟩

theorem witness_CassetteEntryWriteWritesTheTable_none_left :
    ∃ (s : State) (p : List Byte) (r : Cassette) (k : Nat),
      s.ready ∧ p.length = 19 ∧ s.tau.table.length = 8
      ∧ s.pgt.claim = none ∧ s.tau.record = some r ∧ r.cls = .unclassified
      ∧ r.k = some k ∧ chooseEntry s.field k (s.tau.table.set 7 (none)) = none :=
  ⟨{ playing with
      tau := { playing.tau with
        record :=
          some
            { tape with
              cls := .unclassified
              k := some 961664
              samples := [961664, 961664, 961664, 961664]
              quality := .exact
              position := some 9000000 } } },
    [7, 0] ++ [84, 49, 50, 48, 1, 0, 14, 172, 128, 0, 0, 62, 128, 1, 40, 70, 80],
    { tape with
      cls := .unclassified
      k := some 961664
      samples := [961664, 961664, 961664, 961664]
      quality := .exact
      position := some 9000000 },
    961664,
    by decide +kernel⟩

theorem witness_CassetteEntryWriteWritesTheTable_fits :
    ∃ (s : State) (p : List Byte) (r : Cassette),
      s.ready ∧ p.length = 19 ∧ s.tau.table.length = 8
      ∧ s.pgt.claim = none ∧ s.tau.record = some r ∧ r.cls = .unclassified
      ∧ r.k = some 961664 ∧ chooseEntry s.field 961664 (s.tau.table.set 7 (entryOperand p)) = some 7 :=
  ⟨{ playing with
      tau := { playing.tau with
        record :=
          some
            { tape with
              cls := .unclassified
              k := some 961664
              samples := [961664, 961664, 961664, 961664]
              quality := .exact
              position := some 9000000 } } },
    [7, 1] ++ [84, 49, 50, 48, 1, 0, 14, 172, 128, 0, 0, 62, 128, 1, 40, 70, 80],
    { tape with
      cls := .unclassified
      k := some 961664
      samples := [961664, 961664, 961664, 961664]
      quality := .exact
      position := some 9000000 },
    by decide +kernel⟩

theorem witness_PresetWriteWritesTheTable_blank_refused :
    ∃ (s : State) (p : List Byte),
      s.ready ∧ p.length = 18 ∧ byteAt p 0 = 61 ∧ byteAt p 1 = 0 :=
  ⟨calm, [61, 0] ++ List.replicate 16 0, by decide +kernel⟩

theorem witness_PresetWriteWritesTheTable_blank :
    ∃ (s : State) (p : List Byte),
      s.ready ∧ p.length = 18 ∧ s.tnu.source ≠ .preset 7 ∧ byteAt p 0 = 7 ∧ byteAt p 1 = 0 :=
  ⟨calm, [7, 0] ++ List.replicate 16 0, by decide +kernel⟩

theorem witness_PresetWriteWritesTheTable_blank_tuned :
    ∃ (s : State) (p : List Byte),
      s.ready ∧ p.length = 18 ∧ s.tnu.source = .preset 7 ∧ s.pgt.claim = none ∧ byteAt p 0 = 7 ∧ byteAt p 1 = 0
      ∧ s.tnu.owner = .user ∧ s.tnu.state ≠ .installing :=
  ⟨tuned, [7, 0] ++ List.replicate 16 0, by decide +kernel⟩

theorem witness_PresetWriteWritesTheTable_blank_settling :
    ∃ (s : State) (p : List Byte),
      s.ready ∧ p.length = 18 ∧ s.tnu.source = .preset 7 ∧ s.pgt.claim = none ∧ byteAt p 0 = 7 ∧ byteAt p 1 = 0
      ∧ s.tnu.owner = .user ∧ s.tnu.state = .settling :=
  ⟨{ tuned with tnu := { tuned.tnu with state := .settling, settleTimer := some 9, afc := 3 } },
    [7, 0] ++ List.replicate 16 0,
    by decide +kernel⟩

theorem witness_PresetWriteWritesTheTable_bad_state :
    ∃ (s : State) (p : List Byte),
      s.ready ∧ p.length = 18 ∧ 2 ≤ byteAt p 1 :=
  ⟨calm, [7, 2] ++ List.replicate 16 0, by decide +kernel⟩

theorem witness_PresetWriteWritesTheTable_stored :
    ∃ (s : State) (p : List Byte),
      s.ready ∧ p.length = 18 ∧ byteAt p 0 = 60 ∧ byteAt p 1 = 1 ∧ s.tnu.source ≠ .preset 60
      ∧ (presetOperand p).isSome = true :=
  ⟨calm, [60, 1] ++ [14, 80, 5, 6, 1, 4, 177, 0] ++ List.replicate 8 32, by decide +kernel⟩

theorem witness_PresetWriteWritesTheTable_out_of_range :
    ∃ (s : State) (p : List Byte),
      s.ready ∧ p.length = 18 ∧ byteAt p 0 = 60 ∧ byteAt p 1 = 1
      ∧ (presetOperand p).any (fun x => decide (x.n < dividerOf s.field 45250)) = true :=
  ⟨calm, [60, 1, 0, 9, 5, 6, 1, 4, 177, 0] ++ List.replicate 8 32, by decide +kernel⟩

theorem witness_PresetWriteWritesTheTable_tuned_divider :
    ∃ (s : State) (p : List Byte),
      s.ready ∧ p.length = 18 ∧ s.tnu.source = .preset 7 ∧ s.pgt.claim = none ∧ s.tnu.preset 7 = some (station 3664 (some 1201))
      ∧ byteAt p 0 = 7 ∧ byteAt p 1 = 1 ∧ s.tnu.owner = .user ∧ s.tnu.state = .tuned
      ∧ (presetOperand p).map PresetFields.n = some 3665 :=
  ⟨tuned, [7, 1, 14, 81, 5, 6, 1, 4, 177, 0] ++ List.replicate 8 32, by decide +kernel⟩

theorem witness_PresetWriteWritesTheTable_tuned_fine :
    ∃ (s : State) (p : List Byte),
      s.ready ∧ p.length = 18 ∧ s.tnu.source = .preset 7 ∧ s.pgt.claim = none ∧ s.tnu.preset 7 = some (station 3664 (some 1201))
      ∧ byteAt p 0 = 7 ∧ byteAt p 1 = 1 ∧ s.tnu.owner = .user ∧ s.tnu.state = .tuned
      ∧ (presetOperand p).map (fun x => (x.n, x.fine)) = some (3664, 5) :=
  ⟨tuned, [7, 1] ++ [14, 80, 5, 6, 1, 4, 177, 0] ++ List.replicate 8 32, by decide +kernel⟩

theorem witness_PresetWriteWritesTheTable_tuned_same :
    ∃ (s : State) (p : List Byte),
      s.ready ∧ p.length = 18 ∧ s.tnu.source = .preset 7 ∧ s.pgt.claim = none ∧ s.tnu.preset 7 = some (station 3664 (some 1201))
      ∧ byteAt p 0 = 7 ∧ byteAt p 1 = 1 ∧ s.tnu.owner = .user ∧ s.tnu.state = .tuned
      ∧ (presetOperand p).map (fun x => (x.n, x.fine, x.afc)) = some (3664, 0, false) :=
  ⟨{ tuned with tnu := { tuned.tnu with afc := -3 } },
    [7, 1, 14, 80, 0, 4, 1, 4, 177, 0] ++ List.replicate 8 32,
    by decide +kernel⟩

theorem witness_PresetWriteWritesTheTable_tuned_code :
    ∃ (s : State) (p : List Byte),
      s.ready ∧ p.length = 18 ∧ s.tnu.source = .preset 7 ∧ s.pgt.claim = none ∧ s.tnu.preset 7 = some (station 3664 (some 1201))
      ∧ byteAt p 0 = 7 ∧ byteAt p 1 = 1 ∧ s.tnu.owner = .user ∧ s.tnu.state = .tuned
      ∧ (presetOperand p).map (fun x => (x.codeChoice, x.nameChoice)) = some (.keep, .absent) :=
  ⟨{ tuned with tnu := { tuned.tnu with afc := -3 } },
    [7, 1, 14, 80, 0, 6, 8, 0, 0, 0] ++ List.replicate 8 32,
    by decide +kernel⟩

theorem witness_PresetWriteWritesTheTable_stored_refused :
    ∃ (s : State) (p : List Byte),
      s.ready ∧ p.length = 18 ∧ s.tnu.owner = .timer ∧ s.tnu.source = .preset 7 ∧ byteAt p 0 = 7
      ∧ byteAt p 1 = 1 ∧ (presetOperand p).isSome = true :=
  ⟨{ tuned with tnu := { tuned.tnu with owner := .timer } },
    [7, 1] ++ [14, 80, 5, 6, 1, 4, 177, 0] ++ List.replicate 8 32,
    by decide +kernel⟩

theorem witness_TuningRequestsTestedInOrder_engaged :
    ∃ (s : State),
      s.ready ∧ s.pgt.engaged = true :=
  ⟨{ calm with pgt := { calm.pgt with engaged := true } }, by decide +kernel⟩

theorem witness_TuningRequestsTestedInOrder_owned :
    ∃ (s : State) (p : List Byte),
      s.ready ∧ s.tnu.owner = .timer ∧ s.pgt.engaged = false ∧ p.length = 4 :=
  ⟨{ calm with tnu := { calm.tnu with owner := .timer } }, List.replicate 4 0, by decide +kernel⟩

theorem witness_TuningRequestsTestedInOrder_parameter0 :
    ∃ (s : State) (b : Byte) (p : List Byte),
      s.ready ∧ s.tnu.owner = .user ∧ s.pgt.engaged = false ∧ b.toNat = 0 ∧ p.length = 4
      ∧ (numberAt p 0 4 < 45250 ∨ 863250 < numberAt p 0 4) :=
  ⟨calm, 0, [0, 0, 176, 193], by decide +kernel⟩

theorem witness_TuningRequestsTestedInOrder_parameter0_step :
    ∃ (s : State) (b : Byte),
      s.ready ∧ s.tnu.owner = .user ∧ s.pgt.engaged = false ∧ 2 ≤ b.toNat :=
  ⟨calm, 2, by decide +kernel⟩

theorem witness_TuningRequestsTestedInOrder_parameter61 :
    ∃ (s : State) (b : Byte) (p : List Byte),
      s.ready ∧ s.tnu.owner = .user ∧ s.pgt.engaged = false ∧ b.toNat = 61 ∧ p.length = 4
      ∧ (numberAt p 0 4 < 45250 ∨ 863250 < numberAt p 0 4) :=
  ⟨calm, 61, [0, 13, 44, 19], by decide +kernel⟩

theorem witness_TuningRequestsTestedInOrder_parameter61_step :
    ∃ (s : State) (b : Byte),
      s.ready ∧ s.tnu.owner = .user ∧ s.pgt.engaged = false ∧ 2 ≤ b.toNat :=
  ⟨calm, 2, by decide +kernel⟩

theorem witness_TuningRequestsTestedInOrder_no_preset :
    ∃ (s : State) (b : Byte),
      s.ready ∧ s.tnu.owner = .user ∧ b.toNat = 60 ∧ s.tnu.preset b.toNat = none :=
  ⟨calm, 60, by decide +kernel⟩

theorem witness_TuningRequestsTestedInOrder_no_step :
    ∃ (s : State) (b : Byte),
      s.ready ∧ s.tnu.owner = .user ∧ b.toNat ≤ 1
      ∧ (∀ n ∈ List.range' 1 60, (s.tnu.preset n).map Preset.skip ≠ some false)
      ∧ s.tnu.state ≠ .settling ∧ s.tnu.state ≠ .tuned :=
  ⟨calm, 1, by decide +kernel⟩

theorem witness_TuneRequestsSettle_preset :
    ∃ (s : State) (b : Byte) (x : Preset),
      s.ready ∧ s.pgt.claim = none ∧ s.tnu.owner = .user ∧ b.toNat = 60 ∧ s.tnu.preset 60 = some x
      ∧ s.tnu.state ≠ .searching ∧ s.tnu.state ≠ .installing ∧ s.tnu.isOn 60 = false :=
  ⟨{ tuned with
      tnu := { tuned.tnu with
        presets := tuned.tnu.presets.set 59 (some (station 14544 none)) } },
    60,
    station 14544 none,
    by decide +kernel⟩

theorem witness_TuneRequestsSettle_preset_on :
    ∃ (s : State) (b : Byte) (x : Preset),
      s.ready ∧ s.pgt.claim = none ∧ s.tnu.owner = .user ∧ b.toNat = 7 ∧ s.tnu.preset 7 = some x
      ∧ s.tnu.state ≠ .searching ∧ s.tnu.state ≠ .installing ∧ s.tnu.isOn 7 = true :=
  ⟨tuned, 7, station 3664 (some 1201), by decide +kernel⟩

theorem witness_TuneRequestsSettle_step :
    ∃ (s : State) (b : Byte) (x : Preset),
      s.ready ∧ s.pgt.claim = none ∧ s.tnu.owner = .user ∧ b.toNat = 1 ∧ s.tnu.stepTarget false = some 60
      ∧ s.tnu.preset 60 = some x ∧ s.tnu.isOn 60 = false :=
  ⟨{ tuned with
      tnu := { tuned.tnu with
        presets := tuned.tnu.presets.set 59 (some (station 14544 none)) } },
    1,
    station 14544 none,
    by decide +kernel⟩

theorem witness_TuneRequestsSettle_frequency_low :
    ∃ (s : State) (p : List Byte),
      s.ready ∧ s.pgt.claim = none ∧ s.tnu.owner = .user ∧ p.length = 4 ∧ 45250 ≤ numberAt p 0 4
      ∧ numberAt p 0 4 ≤ 863250 :=
  ⟨tuned, [0, 0, 176, 194], by decide +kernel⟩

theorem witness_TuneRequestsSettle_frequency_high :
    ∃ (s : State) (p : List Byte),
      s.ready ∧ s.pgt.claim = none ∧ s.tnu.owner = .user ∧ p.length = 4 ∧ 45250 ≤ numberAt p 0 4
      ∧ numberAt p 0 4 ≤ 863250 :=
  ⟨tuned, [0, 13, 44, 18], by decide +kernel⟩

theorem witness_TuneRequestsSettle_fine_low :
    ∃ (s : State) (b : Byte),
      s.ready ∧ s.tnu.owner = .user ∧ s.tnu.state = .tuned ∧ b = 0x80 :=
  ⟨tuned, 0x80, by decide +kernel⟩

theorem witness_TuneRequestsSettle_fine_high :
    ∃ (s : State) (b : Byte),
      s.ready ∧ s.tnu.owner = .user ∧ s.tnu.state = .tuned ∧ b = 15 :=
  ⟨tuned, 15, by decide +kernel⟩

theorem witness_TuneRequestsSettle_fine_over :
    ∃ (s : State) (b : Byte),
      s.ready ∧ s.tnu.owner = .user ∧ s.tnu.state = .tuned ∧ b = 16 :=
  ⟨tuned, 16, by decide +kernel⟩

theorem witness_SearchAndInstallBegin_b0 :
    ∃ (s : State) (b : Byte),
      s.ready ∧ s.pgt.claim = none ∧ s.pgt.engaged = false ∧ s.tnu.owner = .user
      ∧ s.tnu.state = .idle ∧ s.tnu.base = none ∧ b.toNat = 0 :=
  ⟨calm, 0, by decide +kernel⟩

theorem witness_SearchAndInstallBegin_b1 :
    ∃ (s : State) (b : Byte),
      s.ready ∧ s.pgt.claim = none ∧ s.pgt.engaged = false ∧ s.tnu.owner = .user
      ∧ s.tnu.state = .idle ∧ s.tnu.base = none ∧ b.toNat = 1 :=
  ⟨calm, 1, by decide +kernel⟩

theorem witness_SearchAndInstallBegin_b60 :
    ∃ (s : State) (b : Byte),
      s.ready ∧ s.pgt.claim = none ∧ s.pgt.engaged = false ∧ s.tnu.owner = .user
      ∧ s.tnu.state = .idle ∧ s.tnu.base = none ∧ b.toNat = 60 :=
  ⟨calm, 60, by decide +kernel⟩

theorem witness_TunerAndFilterTablesWritten_limits :
    ∃ (s : State) (p : List Byte),
      s.ready ∧ p.length = 12 ∧ s.tnu.state ≠ .searching ∧ s.tnu.state ≠ .installing
      ∧ (limitsOperand p).allowed = true :=
  ⟨tuned, [1, 0, 1, 0, 1, 1, 1, 1, 1, 2, 127, 255], by decide +kernel⟩

theorem witness_TunerAndFilterTablesWritten_limits_bad :
    ∃ (s : State) (p : List Byte),
      s.ready ∧ p.length = 12 ∧ s.tnu.state ≠ .searching ∧ s.tnu.state ≠ .installing
      ∧ (limitsOperand p).allowed = false :=
  ⟨tuned, List.replicate 12 0, by decide +kernel⟩

theorem witness_TunerAndFilterTablesWritten_limits_scanning :
    ∃ (s : State) (p : List Byte),
      s.ready ∧ p.length = 12 ∧ s.tnu.state = .searching :=
  ⟨{ calm with tnu := { calm.tnu with state := .searching } },
    [1, 0, 1, 0, 1, 1, 1, 1, 1, 2, 127, 255],
    by decide +kernel⟩

theorem witness_TunerAndFilterTablesWritten_filter :
    ∃ (s : State) (p : List Byte),
      s.ready ∧ p.length = 7 ∧ (filterOperand p).isSome = true :=
  ⟨calm, [7, 1, 6, 22, 15, 2, 2], by decide +kernel⟩

theorem witness_ClockSetSetsTheClock :
    ∃ (s : State) (p : List Byte),
      s.ready ∧ p.length = 6 ∧ s.timerQuiet
      ∧ (⟨byteAt p 0, byteAt p 1, 2000 + byteAt p 2, byteAt p 3, byteAt p 4, byteAt p 5⟩ :
        DateTime).valid = true :=
  ⟨calm, [31, 12, 99, 23, 59, 59], by decide +kernel⟩

theorem witness_ClockSetSetsTheClock_refused :
    ∃ (s : State) (p : List Byte),
      s.ready ∧ p.length = 6
      ∧ (⟨byteAt p 0, byteAt p 1, 2000 + byteAt p 2, byteAt p 3, byteAt p 4, byteAt p 5⟩ :
        DateTime).valid = false :=
  ⟨calm, [29, 2, 1, 0, 0, 0], by decide +kernel⟩

theorem witness_ClockSetSetsTheClock_released :
    ∃ (s : State) (p : List Byte),
      s.ready ∧ p.length = 6 ∧ s.pgt.records.length = 16 ∧ s.cku.now = ⟨14, 3, 2031, 19, 0, 0⟩
      ∧ (∀ j ∈ slots, j ≠ 3 → (s.slot j).state ≠ .armed ∧ (s.slot j).state ≠ .deferred)
      ∧ (s.slot 3).repeats = .once ∧ s.pgt.claim = none ∧ (s.slot 3).state = .armed ∧ s.pgt.engaged = false :=
  ⟨{ clockAt ⟨14, 3, 2031, 19, 0, 0⟩ (engagedWith clockRec none calm) with
      pgt := { (clockAt ⟨14, 3, 2031, 19, 0, 0⟩ (engagedWith clockRec none calm)).pgt with
        engaged := false } },
    [14, 3, 31, 21, 30, 0],
    by decide +kernel⟩

theorem witness_ClockSetSetsTheClock_armed_late :
    ∃ (s : State) (p : List Byte),
      s.ready ∧ p.length = 6 ∧ s.pgt.records.length = 16 ∧ s.cku.now = ⟨14, 3, 2031, 19, 0, 0⟩
      ∧ (∀ j ∈ slots, j ≠ 3 → (s.slot j).state ≠ .armed ∧ (s.slot j).state ≠ .deferred)
      ∧ (s.slot 3).repeats = .once ∧ s.pgt.claim = none ∧ (s.slot 3).state = .armed ∧ s.pgt.engaged = true :=
  ⟨clockAt ⟨14, 3, 2031, 19, 0, 0⟩ (engagedWith clockRec none calm),
    [14, 3, 31, 21, 30, 0],
    by decide +kernel⟩

theorem witness_ClockSetSetsTheClock_armed_kept :
    ∃ (s : State) (p : List Byte),
      s.ready ∧ p.length = 6 ∧ s.pgt.records.length = 16 ∧ s.cku.now = ⟨14, 3, 2031, 19, 0, 0⟩
      ∧ (∀ j ∈ slots, j ≠ 3 → (s.slot j).state ≠ .armed ∧ (s.slot j).state ≠ .deferred)
      ∧ (s.slot 3).repeats = .once ∧ s.pgt.claim = none ∧ (s.slot 3).state = .armed :=
  ⟨clockAt ⟨14, 3, 2031, 19, 0, 0⟩ (engagedWith clockRec none calm),
    [14, 3, 31, 19, 59, 0],
    by decide +kernel⟩

theorem witness_ClockSetSetsTheClock_deferred_late :
    ∃ (s : State) (p : List Byte),
      s.ready ∧ p.length = 6 ∧ s.pgt.records.length = 16 ∧ s.cku.now = ⟨14, 3, 2031, 19, 0, 0⟩
      ∧ (∀ j ∈ slots, j ≠ 3 → (s.slot j).state ≠ .armed ∧ (s.slot j).state ≠ .deferred)
      ∧ (s.slot 3).repeats = .once ∧ s.pgt.claim = none ∧ (s.slot 3).state = .deferred :=
  ⟨clockAt ⟨14, 3, 2031, 19, 0, 0⟩
      (engagedWith { clockRec with state := .deferred, deferredTrigger := 984599700 } none calm),
    [14, 3, 31, 21, 0, 0],
    by decide +kernel⟩

theorem witness_ClockSetSetsTheClock_deferred_again :
    ∃ (s : State) (p : List Byte),
      s.ready ∧ p.length = 6 ∧ s.pgt.records.length = 16 ∧ s.cku.now = ⟨14, 3, 2031, 19, 0, 0⟩
      ∧ (∀ j ∈ slots, j ≠ 3 → (s.slot j).state ≠ .armed ∧ (s.slot j).state ≠ .deferred)
      ∧ (s.slot 3).repeats = .once ∧ s.pgt.claim = none ∧ (s.slot 3).state = .deferred :=
  ⟨clockAt ⟨14, 3, 2031, 19, 0, 0⟩
      (engagedWith { clockRec with state := .deferred, deferredTrigger := 984599700 } none calm),
    [14, 3, 31, 19, 30, 0],
    by decide +kernel⟩

theorem witness_ClockSetSetsTheClock_watching :
    ∃ (s : State) (p : List Byte),
      s.ready ∧ p.length = 6 ∧ s.pgt.records.length = 16 ∧ s.cku.now = ⟨14, 3, 2031, 19, 0, 0⟩
      ∧ (∀ j ∈ slots, j ≠ 3 → (s.slot j).state ≠ .armed ∧ (s.slot j).state ≠ .deferred)
      ∧ (s.slot 3).repeats = .once ∧ s.pgt.claim = some 3 ∧ (s.slot 3).state = .watching :=
  ⟨clockAt ⟨14, 3, 2031, 19, 0, 0⟩
      (engagedWith { labelRec with state := .watching } (some 3) calm),
    [14, 3, 31, 22, 15, 0],
    by decide +kernel⟩

theorem witness_ClockSetSetsTheClock_recalled :
    ∃ (s : State) (p : List Byte),
      s.ready ∧ p.length = 6 ∧ s.pgt.records.length = 16 ∧ s.cku.now = ⟨14, 3, 2031, 19, 0, 0⟩
      ∧ (∀ j ∈ slots, j ≠ 3 → (s.slot j).state ≠ .armed ∧ (s.slot j).state ≠ .deferred)
      ∧ (s.slot 3).repeats = .once ∧ s.pgt.claim = some 3 ∧ s.pgt.engaged = true ∧ (s.slot 3).state = .starting
      ∧ (s.slot 3).phase = .clock ∧ (s.slot 3).startCount = some 8 ∧ (s.slot 3).recalled = false
      ∧ (s.slot 3).chosen = some .sp ∧ s.tc.state = .recordPause ∧ s.tc.lockWait = false
      ∧ s.tc.sensors.dew = false ∧ s.mdu.drum.state ≠ .latchedOff :=
  ⟨clockAt ⟨14, 3, 2031, 19, 0, 0⟩
      (engagedWith { clockRec with state := .starting, phase := .clock, startCount := some 8, chosen := some .sp } (some 3) (deckAt .recordPause (some ⟨.recordPause, .recordPause⟩) (.code .c2))),
    [14, 3, 31, 19, 30, 0],
    by decide +kernel⟩

theorem witness_RecordWriteAndClearWriteTheSlot_stored :
    ∃ (s : State) (p : List Byte),
      s.ready ∧ s.pgt.records.length = 16 ∧ p.length = 15 ∧ byteAt p 0 = 16
      ∧ (s.slot 16).state.active = false ∧ recordOperand p = some clockRec
      ∧ clockRec.unfit s.field = false ∧ clockRec.repeats = .once :=
  ⟨clockAt ⟨14, 3, 2031, 19, 0, 0⟩ calm,
    [16, 7, 58, 175, 205, 192, 21, 0, 0, 0, 0, 0, 0, 0, 0],
    by decide +kernel⟩

theorem witness_RecordWriteAndClearWriteTheSlot_repeating :
    ∃ (s : State) (p : List Byte),
      s.ready ∧ s.pgt.records.length = 16 ∧ p.length = 15 ∧ byteAt p 0 = 16
      ∧ (s.slot 16).state.active = false ∧ recordOperand p = some { clockRec with repeats := .daily }
      ∧ clockRec.unfit s.field = false
      ∧ nextServing s.lku.params s.clock 0 { clockRec with repeats := .daily }.withLabel = some 0 :=
  ⟨clockAt ⟨14, 3, 2031, 19, 0, 0⟩ calm,
    [16, 7, 58, 175, 205, 192, 21, 0, 1, 0, 0, 0, 0, 0, 0],
    by decide +kernel⟩

theorem witness_RecordWriteAndClearWriteTheSlot_active :
    ∃ (s : State) (b : Byte) (p : List Byte),
      s.ready ∧ s.pgt.records.length = 16 ∧ p.length = 15 ∧ byteAt p 0 = 3 ∧ b.toNat = 3
      ∧ (s.slot 3).state.active = true :=
  ⟨engagedWith { clockRec with state := .recording } (some 3) playing,
    3,
    [3, 7, 58, 175, 205, 192, 21, 0, 0, 0, 0, 0, 0, 0, 0],
    by decide +kernel⟩

theorem witness_RecordWriteAndClearWriteTheSlot_cleared :
    ∃ (s : State) (b : Byte),
      s.ready ∧ s.pgt.records.length = 16 ∧ b.toNat = 3 ∧ (s.slot 3).state.active = false :=
  ⟨engagedWith clockRec none playing, 3, by decide +kernel⟩

theorem witness_TimerEngageSetsTheFlag_unset :
    ∃ (s : State),
      s.ready ∧ s.cku.state = .unset :=
  ⟨calm, by decide +kernel⟩

theorem witness_TimerEngageSetsTheFlag_set :
    ∃ (s : State),
      s.ready ∧ s.cku.state ≠ .unset :=
  ⟨clockAt ⟨14, 3, 2031, 19, 0, 0⟩ calm, by decide +kernel⟩

theorem witness_TimerEngageSetsTheFlag_pausing :
    ∃ (s : State),
      s.ready ∧ s.cku.state ≠ .unset :=
  ⟨{ (clockAt ⟨14, 3, 2031, 19, 0, 0⟩ (deckAt .recordPause none (.code .c2))) with
      tc := { ((clockAt ⟨14, 3, 2031, 19, 0, 0⟩ (deckAt .recordPause none (.code .c2)))).tc with
        pauseTimer := some 5 } },
    by decide +kernel⟩

theorem witness_TimerReleaseClearsTheFlag :
    ∃ (s : State),
      s.ready ∧ s.pgt.claim = none ∧ s.pgt.engaged = true
      ∧ (∀ n ∈ slots, (s.slot n).state ≠ .deferred) :=
  ⟨engagedWith clockRec none (deckAt .recordPause none (.code .c2)), by decide +kernel⟩

theorem witness_LineRequestsAct_no_line :
    ∃ (s : State) (p : List Byte),
      s.ready ∧ p.length = 5 ∧ s.lnu.lines.length = 8
      ∧ 7 < byteAt p 0 :=
  ⟨{ calm with
      lnu := { calm.lnu with
        lines := calm.lnu.lines.set 3 ⟨false, .extRecordRequest, false, .low⟩ } },
    [8, 0, 0, 0, 0],
    by decide +kernel⟩

theorem witness_LineRequestsAct_bad :
    ∃ (s : State) (p : List Byte),
      s.ready ∧ p.length = 5 ∧ s.lnu.lines.length = 8
      ∧ assignOperand p = none :=
  ⟨{ calm with
      lnu := { calm.lnu with
        lines := calm.lnu.lines.set 3 ⟨false, .extRecordRequest, false, .low⟩ } },
    [7, 0, 22, 0, 0],
    by decide +kernel⟩

theorem witness_LineRequestsAct_wrong_way :
    ∃ (s : State) (p : List Byte),
      s.ready ∧ p.length = 5 ∧ s.lnu.lines.length = 8
      ∧ assignOperand p = some ⟨false, .recording, false, .high⟩ :=
  ⟨{ calm with
      lnu := { calm.lnu with
        lines := calm.lnu.lines.set 3 ⟨false, .extRecordRequest, false, .low⟩ } },
    [7, 0, 1, 0, 0],
    by decide +kernel⟩

theorem witness_LineRequestsAct_conflict :
    ∃ (s : State) (p : List Byte),
      s.ready ∧ p.length = 5 ∧ s.lnu.lines.length = 8
      ∧ assignOperand p = some ⟨false, .extRecordRequest, false, .high⟩
      ∧ (s.line 3).event = .extRecordRequest :=
  ⟨{ calm with
      lnu := { calm.lnu with
        lines := calm.lnu.lines.set 3 ⟨false, .extRecordRequest, false, .low⟩ } },
    [7, 0, 19, 0, 0],
    by decide +kernel⟩

theorem witness_LineRequestsAct_same_line :
    ∃ (s : State) (p : List Byte),
      s.ready ∧ p.length = 5 ∧ s.lnu.lines.length = 8
      ∧ assignOperand p = some ⟨false, .extRecordRequest, false, .low⟩ ∧ byteAt p 0 = 3 :=
  ⟨{ calm with
      lnu := { calm.lnu with
        lines := calm.lnu.lines.set 3 ⟨false, .extRecordRequest, false, .low⟩ } },
    [3, 0, 19, 0, 1],
    by decide +kernel⟩

theorem witness_LineRequestsAct_out :
    ∃ (s : State) (p : List Byte),
      s.ready ∧ p.length = 5 ∧ s.lnu.lines.length = 8
      ∧ assignOperand p = some ⟨true, .recording, true, .high⟩ :=
  ⟨{ calm with
      lnu := { calm.lnu with
        lines := calm.lnu.lines.set 3 ⟨false, .extRecordRequest, false, .low⟩ } },
    [7, 1, 1, 1, 0],
    by decide +kernel⟩

theorem witness_LineRequestsAct_x0 :
    ∃ (s : State),
      s.ready :=
  ⟨calm, by decide +kernel⟩

theorem witness_LineRequestsAct_x3 :
    ∃ (s : State),
      s.ready :=
  ⟨calm, by decide +kernel⟩

theorem witness_StatusClearActsAfterTheReply_clear :
    ∃ (s : State),
      s.ready ∧ s.tc.state ≠ .halted ∧ s.mdu.reel.state = .latchedOff :=
  ⟨{ playing with
      lku := { playing.lku with latched := [.dew] }
      mdu := { playing.mdu with reel := { playing.mdu.reel with state := .latchedOff } } },
    by decide +kernel⟩

theorem witness_StatusClearActsAfterTheReply_retry_repeats :
    ∃ (s : State),
      s.ready ∧ s.tc.state = .halted ∧ s.tc.haltedTimer = none ∧ s.tc.retry = .pending
      ∧ s.pgt.claim = none ∧ s.tc.startUp = false ∧ s.tc.failedMove = some .threading
      ∧ moveOf .threading = some (.c1, .c2) ∧ s.mdu.loading.state = .latchedOff ∧ s.tc.sensors.cam = (.code .c1) :=
  ⟨{ deckAt .halted none (.code .c1) with
      tc := { (deckAt .halted none (.code .c1)).tc with
        retry := .pending
        failedMove := some .threading
        retryCount := 1 }
      mdu := { calm.mdu with loading := { calm.mdu.loading with state := .latchedOff } } },
    by decide +kernel⟩

theorem witness_StatusClearActsAfterTheReply_retry_returns :
    ∃ (s : State),
      s.ready ∧ s.tc.state = .halted ∧ s.tc.haltedTimer = none ∧ s.tc.retry = .pending
      ∧ s.pgt.claim = none ∧ s.tc.startUp = false ∧ s.tc.failedMove = some .threading
      ∧ moveOf .threading = some (.c1, .c2) ∧ s.mdu.loading.state = .latchedOff ∧ s.tc.sensors.cam = .transit :=
  ⟨{ deckAt .halted none .transit with
      tc := { (deckAt .halted none .transit).tc with
        retry := .pending
        failedMove := some .threading
        retryCount := 1 }
      mdu := { calm.mdu with loading := { calm.mdu.loading with state := .latchedOff } } },
    by decide +kernel⟩

theorem witness_StatusClearActsAfterTheReply_retry_at_target :
    ∃ (s : State),
      s.ready ∧ s.tc.state = .halted ∧ s.tc.haltedTimer = none ∧ s.tc.retry = .pending
      ∧ s.pgt.claim = none ∧ s.tc.startUp = false ∧ s.tc.failedMove = some .threading
      ∧ moveOf .threading = some (.c1, .c2) ∧ s.mdu.loading.state = .latchedOff ∧ s.tc.sensors.cam = (.code .c2) :=
  ⟨{ deckAt .halted none (.code .c2) with
      tc := { (deckAt .halted none (.code .c2)).tc with
        retry := .pending
        failedMove := some .threading
        retryCount := 1 }
      mdu := { calm.mdu with loading := { calm.mdu.loading with state := .latchedOff } } },
    by decide +kernel⟩

theorem witness_StatusClearActsAfterTheReply_refused :
    ∃ (s : State) (b : Byte),
      s.ready ∧ 2 ≤ b.toNat :=
  ⟨calm, 2, by decide +kernel⟩

theorem witness_ParameterSetClampsAndHolds_no_id :
    ∃ (s : State) (p : List Byte),
      s.ready ∧ p.length = 3 ∧ 36 < byteAt p 0 :=
  ⟨calm, [37, 0, 0], by decide +kernel⟩

theorem witness_ParameterSetClampsAndHolds_refused :
    ∃ (s : State) (p : List Byte),
      s.ready ∧ p.length = 3 ∧ byteAt p 0 = 1 ∧ s.tau.record.isSome = true :=
  ⟨playing, [1, 0, 0], by decide +kernel⟩

theorem witness_ParameterSetClampsAndHolds_clamped :
    ∃ (s : State) (p : List Byte),
      s.ready ∧ p.length = 3 ∧ byteAt p 0 = 36 :=
  ⟨calm, [36, 1, 0], by decide +kernel⟩

theorem witness_ParameterSetClampsAndHolds_field :
    ∃ (s : State) (p : List Byte),
      s.ready ∧ p.length = 3 ∧ byteAt p 0 = 1 ∧ s.tau.record.isSome = false ∧ s.pgt.engaged = false :=
  ⟨calm, [1, 0, 0], by decide +kernel⟩

theorem witness_ParameterSetClampsAndHolds_mult :
    ∃ (s : State) (p : List Byte),
      s.ready ∧ p.length = 3 ∧ byteAt p 0 = 7 :=
  ⟨calm, [7, 0, 8], by decide +kernel⟩

theorem witness_ParameterSetClampsAndHolds_approach :
    ∃ (s : State) (p : List Byte),
      s.ready ∧ p.length = 3 ∧ byteAt p 0 = 13 ∧ s.tc.state = .play :=
  ⟨playing, [13, 1, 44], by decide +kernel⟩

theorem witness_ParameterSetClampsAndHolds_approach_wind :
    ∃ (s : State) (p : List Byte),
      s.ready ∧ p.length = 3 ∧ byteAt p 0 = 13 ∧ s.tc.state = .windFwd ∧ s.tau.zone = .inside :=
  ⟨{ deckAt .windFwd (some ⟨.windFwd, .windFwd⟩) (.code .c1) with
      tau := { calm.tau with record := some tape, zone := .inside } },
    [13, 1, 44],
    by decide +kernel⟩

theorem witness_ParameterSetClampsAndHolds_approach_back :
    ∃ (s : State) (p : List Byte),
      s.ready ∧ p.length = 3 ∧ byteAt p 0 = 13 ∧ s.tc.state = .searchRev :=
  ⟨deckAt .searchRev (some ⟨.searchRev, .searchRev⟩) (.code .c3), [13, 1, 44], by decide +kernel⟩

theorem witness_ParameterSetClampsAndHolds_approach_rewind :
    ∃ (s : State) (p : List Byte),
      s.ready ∧ p.length = 3 ∧ byteAt p 0 = 13 ∧ s.tc.state = .windRev ∧ s.tau.zone = .inside :=
  ⟨{ deckAt .windRev (some ⟨.windRev, .windRev⟩) (.code .c1) with
      tau := { calm.tau with record := some tape, zone := .inside } },
    [13, 1, 44],
    by decide +kernel⟩

theorem witness_ParameterSetClampsAndHolds_learn :
    ∃ (s : State) (p : List Byte),
      s.ready ∧ p.length = 3 ∧ byteAt p 0 = 10 ∧ s.lku.params.learnSources = true
      ∧ s.dlp.learnCount = 9 :=
  ⟨{ tuned with dlp := { tuned.dlp with learnCode := some 5, learnCount := 9 } },
    [10, 0, 0],
    by decide +kernel⟩

theorem witness_ResetsGiveStartValues :
    ∃ (pins : Pins) (s : State),
      s.ready ∧ s.pgt.claim = none
      ∧ s.pgt.engaged = false ∧ pins.cassette = false :=
  ⟨inputsAtReset,
    { playing with
      lku := { playing.lku with latched := [.dew] }
      mdu := { playing.mdu with reel := { playing.mdu.reel with state := .latchedOff } } },
    by decide +kernel⟩

theorem witness_ResetsGiveStartValues_cassette :
    ∃ (pins : Pins) (s : State),
      s.ready ∧ s.pgt.claim = none
      ∧ s.pgt.engaged = false ∧ pins.cassette = true ∧ pins.cam = .code .c1 :=
  ⟨{ inputsAtReset with cassette := true, cam := .code .c1, tab := true, supply := 90 },
    playing,
    by decide +kernel⟩

theorem witness_ResetsGiveStartValues_threaded :
    ∃ (pins : Pins) (s : State),
      s.ready ∧ s.pgt.claim = none
      ∧ s.pgt.engaged = false ∧ pins.cassette = true ∧ pins.cam = .code .c3
      ∧ pins.dew = true ∧ pins.supply = 89 :=
  ⟨{ inputsAtReset with cassette := true, cam := .code .c3, dew := true, supply := 89 },
    playing,
    by decide +kernel⟩

theorem witness_ResetsGiveStartValues_transit :
    ∃ (pins : Pins) (s : State),
      s.ready ∧ s.pgt.claim = none
      ∧ s.pgt.engaged = false ∧ pins.cassette = true ∧ pins.cam = .transit :=
  ⟨{ inputsAtReset with cassette := true, cam := .transit }, tuned, by decide +kernel⟩

theorem witness_ResetsGiveStartValues_no_deck :
    ∃ (pins : Pins) (s : State),
      s.ready ∧ s.pgt.claim = none
      ∧ s.pgt.engaged = false ∧ pins.cassette = true ∧ pins.cam = .code .c0 :=
  ⟨{ inputsAtReset with cassette := true, cam := .code .c0 }, calm, by decide +kernel⟩

theorem witness_ResetsGiveStartValues_claim :
    ∃ (n : Nat) (s : State),
      s.ready ∧ s.pgt.claim = some n ∧ n ∈ slots
      ∧ s.pgt.records.length = 16 ∧ (s.slot n).state.active = true ∧ (s.slot n).repeats = .once
      ∧ (∀ j ∈ slots, (s.slot j).state ≠ .deferred) :=
  ⟨3,
    engagedWith
      { clockRec with state := .recording, actualStart := some 984600000, phase := .go }
      (some 3) playing,
    by decide +kernel⟩

theorem witness_ResetsGiveStartValues_claim_watching :
    ∃ (n : Nat) (s : State),
      s.ready ∧ s.pgt.claim = some n ∧ n ∈ slots
      ∧ s.pgt.records.length = 16 ∧ (s.slot n).state.active = true ∧ (s.slot n).repeats = .once
      ∧ (∀ j ∈ slots, (s.slot j).state ≠ .deferred) :=
  ⟨3, engagedWith { labelRec with state := .watching } (some 3) playing, by decide +kernel⟩

theorem witness_ResetsGiveStartValues_claim_daily :
    ∃ (n : Nat) (s : State),
      s.ready ∧ s.pgt.claim = some n ∧ n ∈ slots
      ∧ s.pgt.records.length = 16 ∧ (s.slot n).state.active = true ∧ (s.slot n).repeats ≠ .once
      ∧ (nextServing s.lku.params s.clock 1 (s.slot n)).isSome = true
      ∧ (∀ j ∈ slots, (s.slot j).state ≠ .deferred) :=
  ⟨3,
    engagedWith
      { clockRec with state := .recording, repeats := .daily, actualStart := some 984600000 }
      (some 3) playing,
    by decide +kernel⟩

theorem witness_ResetsGiveStartValues_deferred_late :
    ∃ (n : Nat) (s : State),
      s.ready ∧ s.pgt.engaged = true ∧ s.pgt.claim = none ∧ n ∈ slots
      ∧ s.pgt.records.length = 16 ∧ (s.slot n).state = .deferred ∧ (s.slot n).repeats = .once
      ∧ (∀ j ∈ slots, j ≠ n → (s.slot j).state ≠ .deferred)
      ∧ (s.slot n).deadline s.lku.params = s.clock :=
  ⟨3,
    clockAt ⟨14, 3, 2031, 22, 15, 0⟩
      (engagedWith { labelRec with state := .deferred } none tuned),
    by decide +kernel⟩

theorem witness_ResetsGiveStartValues_deferred_blank :
    ∃ (n : Nat) (s : State),
      s.ready ∧ s.pgt.engaged = true ∧ s.pgt.claim = none ∧ n ∈ slots
      ∧ s.pgt.records.length = 16 ∧ (s.slot n).state = .deferred ∧ (s.slot n).repeats = .once
      ∧ (∀ j ∈ slots, j ≠ n → (s.slot j).state ≠ .deferred)
      ∧ (s.slot n).deadline s.lku.params = s.clock + 1 ∧ s.tnu.preset 7 = none :=
  ⟨3,
    clockAt ⟨14, 3, 2031, 22, 14, 59⟩
      (engagedWith { labelRec with state := .deferred } none calm),
    by decide +kernel⟩

theorem witness_ResetsGiveStartValues_deferred_empty :
    ∃ (pins : Pins) (n : Nat) (s : State),
      s.ready ∧ s.pgt.engaged = true ∧ s.pgt.claim = none ∧ n ∈ slots
      ∧ s.pgt.records.length = 16 ∧ (s.slot n).state = .deferred ∧ (s.slot n).repeats = .once
      ∧ (∀ j ∈ slots, j ≠ n → (s.slot j).state ≠ .deferred)
      ∧ ¬(s.slot n).deadline s.lku.params ≤ s.clock ∧ pins.cassette = false
      ∧ s.tnu.preset 7 ≠ none :=
  ⟨inputsAtReset,
    3,
    clockAt ⟨14, 3, 2031, 20, 0, 0⟩
      (engagedWith { labelRec with state := .deferred } none tuned),
    by decide +kernel⟩

theorem witness_ResetsGiveStartValues_deferred_granted :
    ∃ (pins : Pins) (n : Nat) (s : State),
      s.ready ∧ s.pgt.engaged = true ∧ s.pgt.claim = none ∧ n ∈ slots
      ∧ s.pgt.records.length = 16 ∧ (s.slot n).state = .deferred ∧ (s.slot n).repeats = .once
      ∧ (∀ j ∈ slots, j ≠ n → (s.slot j).state ≠ .deferred)
      ∧ (s.slot n).deadline s.lku.params = s.clock + 1 ∧ pins.cassette = true
      ∧ pins.cam = .code .c1 ∧ pins.tab = true ∧ pins.eot = false ∧ (s.slot n).labelControl = true
      ∧ (s.slot n).source = .preset 7 ∧ s.tnu.preset 7 ≠ none :=
  ⟨{ inputsAtReset with cassette := true, cam := .code .c1, tab := true },
    3,
    clockAt ⟨14, 3, 2031, 22, 14, 59⟩
      (engagedWith { labelRec with state := .deferred } none tuned),
    by decide +kernel⟩

theorem witness_StoredTablesReadAndKept_reading :
    ∃ (s : State),
      s.ready :=
  ⟨calm, by decide +kernel⟩

theorem witness_StoredTablesReadAndKept_starts :
    ∃ (s t u v : State), s.ready ∧ exec (.resetDeck 1 inputsAtReset) s = .next t
      ∧ exec (.resetAll 1 inputsAtReset) s = .next u ∧ returning.lku.supply = .returning
      ∧ returning.lku.returnTimer.isSome = true
      ∧ exec (.returnTimerExpiry inputsAtReset) returning = .next v :=
  have ⟨t, ht⟩ := next_of_leads (o := exec (.resetDeck 1 inputsAtReset) calm) (by decide +kernel)
  have ⟨u, hu⟩ := next_of_leads (o := exec (.resetAll 1 inputsAtReset) calm) (by decide +kernel)
  have ⟨v, hv⟩ := next_of_leads (o := exec (.returnTimerExpiry inputsAtReset) returning)
    (by decide +kernel)
  ⟨calm, t, u, v, by decide +kernel, ht, hu, by decide +kernel, by decide +kernel, hv⟩

theorem witness_PwmPeriodFormsTheOutputs_driving :
    ∃ (v : Byte) (s : State),
      s.lku.supply = .mains ∧ v.toNat = 120 ∧ s.lku.params.classSupplyLow ≠ .fault :=
  ⟨120, playing, by decide +kernel⟩

theorem witness_PwmPeriodFormsTheOutputs_dead_zone :
    ∃ (v : Byte) (s : State),
      s.lku.supply = .mains ∧ v.toNat = 89 ∧ s.lku.params.classSupplyLow ≠ .fault :=
  ⟨89,
    { playing with
      mdu := { playing.mdu with reel := { playing.mdu.reel with staged := ⟨.rev, 900⟩ } } },
    by decide +kernel⟩

theorem witness_PwmPeriodFormsTheOutputs_reverse :
    ∃ (v : Byte) (s : State),
      s.lku.supply = .mains ∧ v.toNat = 60 ∧ s.lku.params.classSupplyLow ≠ .fault :=
  ⟨60,
    { playing with
      mdu := { playing.mdu with
        capReverse := false
        capstan := { playing.mdu.capstan with staged := ⟨.rev, 300⟩ } } },
    by decide +kernel⟩

theorem witness_PwmPeriodFormsTheOutputs_hold :
    ∃ (v : Byte) (s : State),
      s.lku.supply = .mains ∧ v.toNat = 255 ∧ s.lku.params.classSupplyLow ≠ .fault :=
  ⟨255,
    { playing with
      mdu := { playing.mdu with
        capReverse := true
        capstan := { playing.mdu.capstan with staged := ⟨.hold, 300⟩ } } },
    by decide +kernel⟩

theorem witness_PwmPeriodFormsTheOutputs_fwd :
    ∃ (v : Byte) (s : State),
      s.lku.supply = .mains ∧ v.toNat = 255 ∧ s.lku.params.classSupplyLow ≠ .fault :=
  ⟨255,
    { playing with
      mdu := { playing.mdu with
        capReverse := true
        capstan := { playing.mdu.capstan with staged := ⟨.fwd, 300⟩ } } },
    by decide +kernel⟩

theorem witness_PwmPeriodFormsTheOutputs_capstan_brake :
    ∃ (v : Byte) (s : State),
      s.lku.supply = .mains ∧ v.toNat = 0 ∧ s.lku.params.classSupplyLow ≠ .fault :=
  ⟨0,
    { playing with
      mdu := { playing.mdu with
        capReverse := true
        capstan := { playing.mdu.capstan with staged := ⟨.brake, 300⟩ } } },
    by decide +kernel⟩

theorem witness_PwmPeriodFormsTheOutputs_halts :
    ∃ (v : Byte) (s : State),
      s.lku.supply = .mains ∧ v.toNat < 90 ∧ 90 ≤ s.mdu.supply ∧ s.lku.params.classSupplyLow = .fault
      ∧ s.tc.state = .play ∧ s.mdu.drum.state = .driving ∧ s.mdu.drum.staged.mode = .run
      ∧ s.pgt.claim = none ∧ s.tc.gate = false :=
  ⟨89,
    { playing with
      lku := { playing.lku with params := { Params.default with classSupplyLow := .fault } } },
    by decide +kernel⟩

theorem witness_PwmPeriodFormsTheOutputs_halted :
    ∃ (v : Byte) (s : State),
      s.lku.supply = .mains ∧ v.toNat < 90 ∧ 90 ≤ s.mdu.supply ∧ s.lku.params.classSupplyLow = .fault
      ∧ motorsRun s = false :=
  ⟨89,
    { calm with
      lku := { calm.lku with params := { Params.default with classSupplyLow := .fault } } },
    by decide +kernel⟩

theorem witness_PwmPeriodFormsTheOutputs_recovering :
    ∃ (v : Byte) (s : State),
      s.lku.supply = .mains ∧ s.mdu.drum.state = .recovering ∧ s.mdu.capstan.state = .latchedOff
      ∧ 90 ≤ v.toNat :=
  ⟨120,
    { playing with
      mdu := { playing.mdu with
        drum := { playing.mdu.drum with state := .recovering, applied := ⟨.off, 0⟩ }
        capstan := { playing.mdu.capstan with state := .latchedOff } } },
    by decide +kernel⟩

theorem witness_TripsRecoverOrLatchOff_unwatched :
    ∃ (c : Channel) (s : State),
      s.lku.supply = .mains ∧ (s.mdu.motor c).state ≠ .driving :=
  ⟨.loading, calm, by decide +kernel⟩

theorem witness_TripsRecoverOrLatchOff_recovers :
    ∃ (c : Channel) (s : State),
      s.lku.supply = .mains ∧ (s.mdu.motor c).state = .driving ∧ (s.mdu.motor c).applied.mode = .run
      ∧ s.lku.params.policy.of c = .recover ∧ (s.mdu.motor c).trips.length < 7 :=
  ⟨.drum, playing, by decide +kernel⟩

theorem witness_TripsRecoverOrLatchOff_latches :
    ∃ (c : Channel) (s : State),
      s.lku.supply = .mains ∧ (s.mdu.motor c).state = .driving ∧ (s.mdu.motor c).applied.mode = .fwd
      ∧ c ≠ .loading ∧ s.pgt.claim = none ∧ s.tc.state ∉ [.halted, .lockedOut, .powerDown]
      ∧ s.lku.params.policy.of c = .latch :=
  ⟨.reel, playing, by decide +kernel⟩

theorem witness_TripsRecoverOrLatchOff_expires :
    ∃ (c : Channel) (s : State) (dt : Tick),
      s.lku.supply = .mains ∧ (s.mdu.motor c).state = .driving ∧ (s.mdu.motor c).applied.mode = .run
      ∧ c ≠ .loading ∧ s.pgt.claim = none ∧ s.tc.state ∉ [.halted, .lockedOut, .powerDown]
      ∧ s.lku.params.policy.of c = .recover
      ∧ 7 ≤ ((s.mdu.motor c).trips.filter (fun t => decide (s.now + dt ≤ t + 1000000))).length :=
  ⟨.drum,
    { playing with
      mdu := { playing.mdu with
        drum := { playing.mdu.drum with trips := [0, 0, 0, 0, 0, 0, 0] } } },
    1000000,
    by decide +kernel⟩

theorem witness_TripsRecoverOrLatchOff_ends :
    ∃ (c : Channel) (s : State) (due : Tick),
      s.lku.supply = .mains ∧ (s.mdu.motor c).recoveryTimer = some due :=
  ⟨.drum,
    { playing with
      mdu := { playing.mdu with
        drum := { playing.mdu.drum with
          state := .recovering
          recoveries := 65535
          recoveryTimer := some 20000 } } },
    20000,
    by decide +kernel⟩

theorem witness_FramePulseAppliesWhatIsStaged_nothing_staged :
    ∃ (s : State) (dt : Tick),
      s.lku.supply = .mains ∧ s.svu.drumStaged = none ∧ s.svu.capStaged = none
      ∧ s.svu.drumTarget = .run .video ∧ s.svu.lastRef ≠ s.now + dt :=
  ⟨{ playing with svu := { playing.svu with drumTarget := .run .video, refWait := true } },
    33333,
    by decide +kernel⟩

theorem witness_FramePulseAppliesWhatIsStaged_not_video :
    ∃ (s : State),
      s.lku.supply = .mains ∧ s.svu.drumTarget ≠ .run .video :=
  ⟨playing, by decide +kernel⟩

theorem witness_FramePulseAppliesWhatIsStaged_staged :
    ∃ (s : State) (r : DrumRef),
      s.lku.supply = .mains ∧ s.svu.drumStaged = some (.run r) ∧ s.svu.drumTarget = .off
      ∧ s.svu.capStaged = none ∧ s.svu.drum.lock = .unlocked :=
  ⟨{ calm with svu := { calm.svu with drumStaged := some (.run .internal) } },
    .internal,
    by decide +kernel⟩

theorem witness_FramePulseAppliesWhatIsStaged_reference :
    ∃ (s : State) (r r' : DrumRef),
      s.lku.supply = .mains ∧ s.svu.drumTarget = .run r ∧ s.svu.drumStaged = some (.run r') ∧ r ≠ r'
      ∧ s.svu.capStaged = none ∧ s.tc.state ≠ .record ∧ s.tc.lockWait = false :=
  ⟨{ playing with
      svu := { playing.svu with
        drumStaged := some (.run .video)
        drum := { playing.svu.drum with lock := .speedLock, phaseIn := 5, phaseOut := 2 } } },
    .internal,
    .video,
    by decide +kernel⟩

theorem witness_MeasurementsDriveTheLoops_drum :
    ∃ (s : State) (before : Tick),
      s.lku.supply = .mains ∧ (s.tc.lockWait = true → s.tc.state = .engaging ∧ s.pgt.claim = none
        ∧ s.tc.sensors.eot = false)
      ∧ s.svu.drumTarget = .run .internal
      ∧ s.svu.drum.lastPulse = some before ∧ s.svu.drum.lock = .unlocked ∧ s.svu.drum.inBand = 15 ∧ s.tc.state = .play :=
  ⟨{ playing with
      svu := { playing.svu with
        drumTarget := .run .internal
        drum := { playing.svu.drum with
          lastPulse := some 0
          lock := .unlocked
          inBand := 15 } } },
    0,
    by decide +kernel⟩

theorem witness_MeasurementsDriveTheLoops_drum_lost :
    ∃ (s : State) (before : Tick),
      s.lku.supply = .mains ∧ (s.tc.lockWait = true → s.tc.state = .engaging ∧ s.pgt.claim = none
        ∧ s.tc.sensors.eot = false)
      ∧ s.svu.drumTarget = .run .internal
      ∧ s.svu.drum.lastPulse = some before ∧ s.svu.drum.lock = .phaseLock ∧ s.svu.drum.outBand = 3 :=
  ⟨{ playing with
      svu := { playing.svu with
        drumTarget := .run .internal
        drum := { playing.svu.drum with
          lastPulse := some 0
          lock := .phaseLock
          outBand := 3
          phaseTerm := some 9 } } },
    0,
    by decide +kernel⟩

theorem witness_MeasurementsDriveTheLoops_drum_phase :
    ∃ (s : State) (before : Tick),
      s.lku.supply = .mains ∧ (s.tc.lockWait = true → s.tc.state = .engaging ∧ s.pgt.claim = none
        ∧ s.tc.sensors.eot = false)
      ∧ s.svu.drumTarget = .run .internal
      ∧ s.svu.drum.lastPulse = some before ∧ s.svu.drum.lock = .speedLock ∧ s.svu.drum.phaseIn = 7 :=
  ⟨{ playing with
      svu := { playing.svu with
        drumTarget := .run .internal
        drum := { playing.svu.drum with
          lastPulse := some 0
          lock := .speedLock
          phaseIn := 7 }
        lastRef := 33333 } },
    0,
    by decide +kernel⟩

theorem witness_MeasurementsDriveTheLoops_drum_record :
    ∃ (s : State) (before : Tick),
      s.lku.supply = .mains ∧ (s.tc.lockWait = true → s.tc.state = .engaging ∧ s.pgt.claim = none
        ∧ s.tc.sensors.eot = false)
      ∧ s.svu.drumTarget = .run .internal
      ∧ s.svu.drum.lastPulse = some before ∧ s.tc.state = .record ∧ s.svu.drum.lock = .phaseLock ∧ s.svu.drum.phaseOut = 3
      ∧ s.tc.recordLockTimer = none :=
  ⟨{ (deckAt .record (some ⟨.record, .record⟩) (.code .c3)) with
      svu := { (deckAt .record (some ⟨.record, .record⟩) (.code .c3)).svu with
        drumTarget := .run .internal
        drum := { (deckAt .record (some ⟨.record, .record⟩) (.code .c3)).svu.drum with
          lastPulse := some 0
          lock := .phaseLock
          phaseOut := 3 }
        cap := { (deckAt .record (some ⟨.record, .record⟩) (.code .c3)).svu.cap with
          lock := .speedLock }
        lastRef := 30000 }
      tc := { (deckAt .record (some ⟨.record, .record⟩) (.code .c3)).tc with
        recordLockTimer := none } },
    0,
    by decide +kernel⟩

theorem witness_MeasurementsDriveTheLoops_drum_lock_wait :
    ∃ (s : State) (before : Tick),
      s.lku.supply = .mains ∧ (s.tc.lockWait = true → s.tc.state = .engaging ∧ s.pgt.claim = none
        ∧ s.tc.sensors.eot = false)
      ∧ s.svu.drumTarget = .run .internal
      ∧ s.svu.drum.lastPulse = some before ∧ s.tc.lockWait = true ∧ s.svu.drum.phaseIn = 7 ∧ s.svu.cap.lock = .speedLock :=
  ⟨{ (deckAt .engaging (some ⟨.record, .record⟩) (.code .c3)) with
      svu := { (deckAt .engaging (some ⟨.record, .record⟩) (.code .c3)).svu with
        drumTarget := .run .internal
        drum := { (deckAt .engaging (some ⟨.record, .record⟩) (.code .c3)).svu.drum with
          lastPulse := some 0
          lock := .speedLock
          phaseIn := 7 }
        cap := { (deckAt .engaging (some ⟨.record, .record⟩) (.code .c3)).svu.cap with
          lock := .speedLock }
        lastRef := 33333 }
      tc := { (deckAt .engaging (some ⟨.record, .record⟩) (.code .c3)).tc with
        lockWait := true } },
    0,
    by decide +kernel⟩

theorem witness_MeasurementsDriveTheLoops_drum_first :
    ∃ (s : State),
      s.lku.supply = .mains ∧ (s.tc.lockWait = true → s.tc.state = .engaging ∧ s.pgt.claim = none
        ∧ s.tc.sensors.eot = false)
      ∧ s.svu.drumTarget = .run .video ∧ s.svu.drum.lastPulse = none :=
  ⟨{ playing with svu := { playing.svu with drumTarget := .run .video } }, by decide +kernel⟩

theorem witness_MeasurementsDriveTheLoops_drum_off :
    ∃ (s : State),
      s.lku.supply = .mains ∧ (s.tc.lockWait = true → s.tc.state = .engaging ∧ s.pgt.claim = none
        ∧ s.tc.sensors.eot = false)
      ∧ s.svu.drumTarget = .off :=
  ⟨calm, by decide +kernel⟩

theorem witness_MeasurementsDriveTheLoops_capstan :
    ∃ (s : State) (before : Tick),
      s.lku.supply = .mains ∧ (s.tc.lockWait = true → s.tc.state = .engaging ∧ s.pgt.claim = none
        ∧ s.tc.sensors.eot = false)
      ∧ s.svu.capTarget = .run true 1 5 ∧ s.svu.cap.lastPulse = some before
      ∧ s.tc.state = .searchRev ∧ s.svu.cap.inBand = 15 :=
  ⟨{ (deckAt .searchRev (some ⟨.searchRev, .searchRev⟩) (.code .c3)) with
      svu := { (deckAt .searchRev (some ⟨.searchRev, .searchRev⟩) (.code .c3)).svu with
        capTarget := .run true 1 5
        cap := { (deckAt .searchRev (some ⟨.searchRev, .searchRev⟩) (.code .c3)).svu.cap with
          lastPulse := some 0
          lock := .unlocked
          inBand := 15 } } },
    0,
    by decide +kernel⟩

theorem witness_MeasurementsDriveTheLoops_capstan_lost :
    ∃ (s : State) (before : Tick),
      s.lku.supply = .mains ∧ (s.tc.lockWait = true → s.tc.state = .engaging ∧ s.pgt.claim = none
        ∧ s.tc.sensors.eot = false)
      ∧ s.svu.capTarget = .run false 2 1 ∧ s.svu.cap.lastPulse = some before
      ∧ s.tc.state = .record ∧ s.svu.cap.lock = .speedLock
      ∧ s.svu.cap.outBand = 3 :=
  ⟨{ (deckAt .record (some ⟨.record, .record⟩) (.code .c3)) with
      svu := { (deckAt .record (some ⟨.record, .record⟩) (.code .c3)).svu with
        capTarget := .run false 2 1
        cap := { (deckAt .record (some ⟨.record, .record⟩) (.code .c3)).svu.cap with
          lastPulse := some 0
          lock := .speedLock
          outBand := 3 }
        drum := { (deckAt .record (some ⟨.record, .record⟩) (.code .c3)).svu.drum with
          lock := .phaseLock } } },
    0,
    by decide +kernel⟩

theorem witness_MeasurementsDriveTheLoops_capstan_lock_wait :
    ∃ (s : State) (before : Tick),
      s.lku.supply = .mains ∧ (s.tc.lockWait = true → s.tc.state = .engaging ∧ s.pgt.claim = none
        ∧ s.tc.sensors.eot = false)
      ∧ s.svu.capTarget = .run false 1 1 ∧ s.svu.cap.lastPulse = some before
      ∧ s.tc.lockWait = true ∧ s.svu.cap.inBand = 15
      ∧ s.svu.drum.lock = .phaseLock :=
  ⟨{ (deckAt .engaging (some ⟨.record, .record⟩) (.code .c3)) with
      svu := { (deckAt .engaging (some ⟨.record, .record⟩) (.code .c3)).svu with
        capTarget := .run false 1 1
        cap := { (deckAt .engaging (some ⟨.record, .record⟩) (.code .c3)).svu.cap with
          lastPulse := some 0
          lock := .unlocked
          inBand := 15 }
        drum := { (deckAt .engaging (some ⟨.record, .record⟩) (.code .c3)).svu.drum with
          lock := .phaseLock } }
      tc := { (deckAt .engaging (some ⟨.record, .record⟩) (.code .c3)).tc with
        lockWait := true } },
    0,
    by decide +kernel⟩

theorem witness_MeasurementsDriveTheLoops_capstan_first :
    ∃ (s : State),
      s.lku.supply = .mains ∧ (s.tc.lockWait = true → s.tc.state = .engaging ∧ s.pgt.claim = none
        ∧ s.tc.sensors.eot = false)
      ∧ s.svu.capTarget = .run false 1 1 ∧ s.svu.cap.lastPulse = none :=
  ⟨playing, by decide +kernel⟩

theorem witness_MeasurementsDriveTheLoops_capstan_hold :
    ∃ (s : State),
      s.lku.supply = .mains ∧ (s.tc.lockWait = true → s.tc.state = .engaging ∧ s.pgt.claim = none
        ∧ s.tc.sensors.eot = false)
      ∧ s.svu.capTarget = .hold :=
  ⟨{ playing with svu := { playing.svu with capTarget := .hold } }, by decide +kernel⟩

theorem witness_MeasurementsDriveTheLoops_ctl :
    ∃ (s : State),
      s.lku.supply = .mains ∧ (s.tc.lockWait = true → s.tc.state = .engaging ∧ s.pgt.claim = none
        ∧ s.tc.sensors.eot = false)
      ∧ s.tc.state = .play ∧ s.svu.ident = .complete ∧ s.pgt.claim = none
      ∧ s.svu.cap.lock = .speedLock ∧ s.svu.cap.phaseIn = 7 :=
  ⟨{ playing with
      svu := { playing.svu with
        ident := .complete
        cap := { playing.svu.cap with lock := .speedLock, phaseIn := 7 } }
      lku := { playing.lku with params := { Params.default with tracking := -60 } } },
    by decide +kernel⟩

theorem witness_MeasurementsDriveTheLoops_ctl_lost :
    ∃ (s : State),
      s.lku.supply = .mains ∧ (s.tc.lockWait = true → s.tc.state = .engaging ∧ s.pgt.claim = none
        ∧ s.tc.sensors.eot = false)
      ∧ s.tc.state = .play ∧ s.svu.ident = .complete ∧ s.pgt.claim = none
      ∧ s.svu.cap.lock = .phaseLock ∧ s.svu.cap.phaseOut = 3 :=
  ⟨{ playing with
      svu := { playing.svu with
        ident := .complete
        cap := { playing.svu.cap with lock := .phaseLock, phaseOut := 3 } }
      lku := { playing.lku with params := { Params.default with tracking := 60 } } },
    by decide +kernel⟩

theorem witness_FgAndReelPulsesAccountTheTape_fg :
    ∃ (s : State) (r : Cassette),
      s.lku.supply = .mains ∧ s.tau.record = some r ∧ s.tc.lockWait = false ∧ s.tau.fgStep = 10 ∧ s.mdu.capReverse = false :=
  ⟨{ deckAt .play (some ⟨.play, .play⟩) (.code .c3) with
      mdu := { calm.mdu with capReverse := false }
      tau := { calm.tau with record := some tape, fgStep := 10 } },
    tape,
    by decide +kernel⟩

theorem witness_FgAndReelPulsesAccountTheTape_away :
    ∃ (s : State) (r : Cassette),
      s.lku.supply = .mains ∧ s.tau.record = some r ∧ s.tc.lockWait = false ∧ s.tc.sensors.cam = .code .c2
      ∧ s.tau.fgStep = 11 :=
  ⟨{ deckAt .threadedStop none (.code .c2) with
      tau := { calm.tau with record := some tape, fgStep := 11 } },
    tape,
    by decide +kernel⟩

theorem witness_FgAndReelPulsesAccountTheTape_twelfth :
    ∃ (s : State) (r : Cassette),
      s.lku.supply = .mains ∧ s.tau.record = some r ∧ s.tc.lockWait = false ∧ s.tc.sensors.cam = .code .c3
      ∧ s.tau.fgStep = 11 ∧ s.mdu.capReverse = false
      ∧ s.tc.state = .record ∧ s.tau.inProgress = some 900 :=
  ⟨{ deckAt .record (some ⟨.record, .record⟩) (.code .c3) with
      mdu := { calm.mdu with capReverse := false }
      tau := { calm.tau with
        record := some { tape with position := some 999, quality := .exact, counter := -1 }
        fgStep := 11
        directory :=
          [⟨900, none, none, .manual, none, none, none⟩, ⟨1000, none, none, .found, none, none, none⟩]
        inProgress := some 900 } },
    { tape with position := some 999, quality := .exact, counter := -1 },
    by decide +kernel⟩

theorem witness_FgAndReelPulsesAccountTheTape_twelfth_total :
    ∃ (s : State) (r : Cassette),
      s.lku.supply = .mains ∧ s.tau.record = some r ∧ s.tc.lockWait = false ∧ s.tc.sensors.cam = .code .c3
      ∧ s.tau.fgStep = 11 ∧ s.mdu.capReverse = false
      ∧ s.tau.classEntry = some t120 ∧ r.position = some 216000
      ∧ r.counter = 1080000 :=
  ⟨{ deckAt .play (some ⟨.play, .play⟩) (.code .c3) with
      mdu := { calm.mdu with capReverse := false }
      tau := { calm.tau with
        record :=
          some
            { tape with
              position := some 216000
              quality := .exact
              counter := 1080000
              cls := .index 0 }
        fgStep := 11
        table := calm.tau.table.set 0 (some t120) } },
    { tape with
      position := some 216000
      quality := .exact
      counter := 1080000
      cls := .index 0 },
    by decide +kernel⟩

theorem witness_FgAndReelPulsesAccountTheTape_twelfth_back :
    ∃ (s : State) (r : Cassette),
      s.lku.supply = .mains ∧ s.tau.record = some r ∧ s.tc.lockWait = false ∧ s.tc.sensors.cam = .code .c3
      ∧ s.tau.fgStep = -11 ∧ s.mdu.capReverse = true
      ∧ s.tau.seek.counting = true ∧ r.position = some 0
      ∧ r.counter = -1080000 :=
  ⟨{ deckAt .searchRev (some ⟨.searchRev, .searchRev⟩) (.code .c3) with
      mdu := { calm.mdu with capReverse := true }
      tau := { calm.tau with
        record :=
          some { tape with position := some 0, quality := .exact, counter := -1080000 }
        fgStep := -11
        seek := ⟨.seeking, true, 3, 0, 60, true, none⟩ } },
    { tape with position := some 0, quality := .exact, counter := -1080000 },
    by decide +kernel⟩

theorem witness_FgAndReelPulsesAccountTheTape_revolutions :
    ∃ (s : State) (r : Cassette),
      s.lku.supply = .mains ∧ s.tau.record = some r ∧ s.tc.lockWait = false ∧ s.tc.state = .searchRev
      ∧ s.tau.supplyRev.fg = 65535 :=
  ⟨{ deckAt .searchRev (some ⟨.searchRev, .searchRev⟩) (.code .c3) with
      mdu := { calm.mdu with capReverse := true }
      tau := { calm.tau with
        record := some tape
        fgStep := 3
        supplyRev := ⟨true, 1, 65535, 0⟩
        takeUpRev := ⟨true, 0, 65534, 0⟩ } },
    tape,
    by decide +kernel⟩

theorem witness_FgAndReelPulsesAccountTheTape_reel_begins :
    ∃ (s : State) (r : Cassette),
      s.lku.supply = .mains ∧ s.tau.record = some r ∧ s.tc.state = .record ∧ s.tau.takeUpRev = ⟨false, 0, 0, 0⟩ :=
  ⟨{ deckAt .record (some ⟨.record, .record⟩) (.code .c3) with
      tau := { calm.tau with record := some tape, takeUpRev := ⟨false, 0, 0, 0⟩ } },
    tape,
    by decide +kernel⟩

theorem witness_FgAndReelPulsesAccountTheTape_reel_first :
    ∃ (s : State) (r : Cassette),
      s.lku.supply = .mains ∧ s.tau.record = some r ∧ s.tc.state = .searchFwd ∧ s.tau.takeUpRev = ⟨true, 0, 7, 0⟩ :=
  ⟨{ deckAt .searchFwd (some ⟨.searchFwd, .searchFwd⟩) (.code .c3) with
      tau := { calm.tau with record := some tape, takeUpRev := ⟨true, 0, 7, 0⟩ } },
    tape,
    by decide +kernel⟩

theorem witness_FgAndReelPulsesAccountTheTape_reel_completes :
    ∃ (s : State) (r : Cassette),
      s.lku.supply = .mains ∧ s.tau.record = some r ∧ s.tc.state = .searchRev ∧ s.tau.takeUpRev = ⟨true, 1, 12284, 0⟩ :=
  ⟨{ deckAt .searchRev (some ⟨.searchRev, .searchRev⟩) (.code .c3) with
      tau := { calm.tau with record := some tape, takeUpRev := ⟨true, 1, 12284, 0⟩ } },
    tape,
    by decide +kernel⟩

theorem witness_FgAndReelPulsesAccountTheTape_reel_idle :
    ∃ (s : State) (r : Cassette),
      s.lku.supply = .mains ∧ s.tau.record = some r ∧ s.tc.state.isDrive = false ∧ s.tc.state.isWind = false :=
  ⟨deckAt .threadedStop none (.code .c2), tape, by decide +kernel⟩

theorem witness_CtlPulsesClassifiedAndWatched_first :
    ∃ (s : State),
      s.lku.supply = .mains ∧ s.tc.state = .searchRev ∧ s.tau.edge = none :=
  ⟨{ deckAt .searchRev (some ⟨.searchRev, .searchRev⟩) (.code .c3) with
      tau := { calm.tau with record := some tape, edge := none, window := [] } },
    by decide +kernel⟩

theorem witness_CtlPulsesClassifiedAndWatched_falling :
    ∃ (s : State) (e : CtlEdge),
      s.lku.supply = .mains ∧ s.tc.state = .play ∧ s.tau.edge = some e :=
  ⟨{ deckAt .play (some ⟨.play, .play⟩) (.code .c3) with
      tau := { calm.tau with
        record := some tape
        edge := some ⟨0, none, none, 0⟩
        window := [] } },
    ⟨0, none, none, 0⟩,
    by decide +kernel⟩

theorem witness_CtlPulsesClassifiedAndWatched_joins :
    ∃ (s : State) (e : CtlEdge),
      s.lku.supply = .mains ∧ s.tc.lockWait = false ∧ s.pgt.claim = none ∧ s.tc.sensors.eot = false
      ∧ s.tc.openRec = false ∧ s.tau.edge = some e ∧ s.tc.state = .searchFwd ∧ s.tau.window.length = 30 :=
  ⟨{ deckAt .searchFwd (some ⟨.searchFwd, .searchFwd⟩) (.code .c3) with
      tau := { calm.tau with
        record := some tape
        edge := some ⟨0, some 15000, some 500, 61⟩
        window := List.replicate 30 ⟨true, some 4, 0⟩ } },
    ⟨0, some 15000, some 500, 61⟩,
    by decide +kernel⟩

theorem witness_CtlPulsesClassifiedAndWatched_joins_full :
    ∃ (s : State) (e : CtlEdge),
      s.lku.supply = .mains ∧ s.tc.lockWait = false ∧ s.pgt.claim = none ∧ s.tc.sensors.eot = false
      ∧ s.tc.openRec = false ∧ s.tau.edge = some e ∧ s.tc.state = .searchRev ∧ s.tau.window.length = 48 :=
  ⟨{ deckAt .searchRev (some ⟨.searchRev, .searchRev⟩) (.code .c3) with
      tau := { calm.tau with
        record := some tape
        edge := some ⟨0, some 15000, some 500, 61⟩
        window := List.replicate 31 ⟨true, none, 0⟩ ++ List.replicate 17 ⟨false, none, 0⟩ } },
    ⟨0, some 15000, some 500, 61⟩,
    by decide +kernel⟩

theorem witness_CtlPulsesClassifiedAndWatched_mark :
    ∃ (s : State) (e : CtlEdge) (mark : WindowEntry),
      s.lku.supply = .mains ∧ s.tc.lockWait = false ∧ s.pgt.claim = none ∧ s.tc.sensors.eot = false
      ∧ s.tc.openRec = false ∧ s.tau.edge = some e ∧ 32 ≤ (longEntries (s.tau.window ++ [⟨true, e.position, e.travel⟩])).length
      ∧ markEntry (s.tc.state == .searchRev)
          (s.tau.window ++ [⟨true, e.position, e.travel⟩]) = some mark
      ∧ s.tc.state = .searchFwd ∧ s.tau.seek.counting = true ∧ mark.travel = 60 :=
  ⟨{ deckAt .searchFwd (some ⟨.searchFwd, .searchFwd⟩) (.code .c3) with
      tau := { calm.tau with
        record := some tape
        edge := some ⟨0, some 15000, some 500, 61⟩
        window := List.replicate 31 ⟨true, some 600, 60⟩
        seek := ⟨.seeking, false, 1, 0, 0, true, none⟩
        directory :=
          [⟨439, some 499, none, .manual, none, none, none⟩, ⟨561, none, none, .found, none, none, none⟩] } },
    ⟨0, some 15000, some 500, 61⟩,
    ⟨true, some 600, 60⟩,
    by decide +kernel⟩

theorem witness_CtlPulsesClassifiedAndWatched_mark_counted :
    ∃ (s : State) (e : CtlEdge) (mark : WindowEntry),
      s.lku.supply = .mains ∧ s.tc.lockWait = false ∧ s.pgt.claim = none ∧ s.tc.sensors.eot = false
      ∧ s.tc.openRec = false ∧ s.tau.edge = some e ∧ 32 ≤ (longEntries (s.tau.window ++ [⟨true, e.position, e.travel⟩])).length
      ∧ markEntry (s.tc.state == .searchRev)
          (s.tau.window ++ [⟨true, e.position, e.travel⟩]) = some mark
      ∧ s.tc.state = .searchRev ∧ mark.travel = 61
      ∧ s.tau.seek.found + 1 < s.tau.seek.count ∧ s.tau.directory.length = 2 :=
  ⟨{ deckAt .searchRev (some ⟨.searchRev, .searchRev⟩) (.code .c3) with
      tau := { calm.tau with
        record := some tape
        edge := some ⟨0, some 15000, some 500, 61⟩
        window := List.replicate 31 ⟨true, some 600, 60⟩
        seek := ⟨.seeking, true, 2, 0, 0, true, none⟩
        directory :=
          [⟨439, some 499, none, .manual, none, none, none⟩, ⟨561, none, none, .found, none, none, none⟩] } },
    ⟨0, some 15000, some 500, 61⟩,
    ⟨true, some 500, 61⟩,
    by decide +kernel⟩

theorem witness_CtlPulsesClassifiedAndWatched_mark_found :
    ∃ (s : State) (e : CtlEdge) (mark : WindowEntry),
      s.lku.supply = .mains ∧ s.tc.lockWait = false ∧ s.pgt.claim = none ∧ s.tc.sensors.eot = false
      ∧ s.tc.openRec = false ∧ s.tau.edge = some e ∧ 32 ≤ (longEntries (s.tau.window ++ [⟨true, e.position, e.travel⟩])).length
      ∧ markEntry (s.tc.state == .searchRev)
          (s.tau.window ++ [⟨true, e.position, e.travel⟩]) = some mark
      ∧ s.tc.state = .searchRev ∧ mark.travel = 61
      ∧ s.tau.seek.found + 1 = s.tau.seek.count ∧ s.tau.directory = [] :=
  ⟨{ deckAt .searchRev (some ⟨.searchRev, .searchRev⟩) (.code .c3) with
      tau := { calm.tau with
        record := some tape
        edge := some ⟨0, some 15000, some 500, 61⟩
        window := List.replicate 31 ⟨true, some 600, 60⟩
        seek := ⟨.seeking, true, 2, 1, 0, true, none⟩ } },
    ⟨0, some 15000, some 500, 61⟩,
    ⟨true, some 500, 61⟩,
    by decide +kernel⟩

theorem witness_CtlPulsesClassifiedAndWatched_mark_full :
    ∃ (s : State) (e : CtlEdge) (mark : WindowEntry),
      s.lku.supply = .mains ∧ s.tc.lockWait = false ∧ s.pgt.claim = none ∧ s.tc.sensors.eot = false
      ∧ s.tc.openRec = false ∧ s.tau.edge = some e ∧ 32 ≤ (longEntries (s.tau.window ++ [⟨true, e.position, e.travel⟩])).length
      ∧ markEntry (s.tc.state == .searchRev)
          (s.tau.window ++ [⟨true, e.position, e.travel⟩]) = some mark
      ∧ s.tc.state = .play ∧ s.tau.directory.length = 16
      ∧ (∀ x ∈ s.tau.directory, x.origin = .manual) :=
  ⟨{ deckAt .play (some ⟨.play, .play⟩) (.code .c3) with
      tau := { calm.tau with
        record := some tape
        edge := some ⟨0, some 15000, some 500, 61⟩
        window := List.replicate 31 ⟨true, some 600, 60⟩
        directory :=
          (List.range 16).map
            (fun i => ⟨1000 * (i + 1), some (1000 * i + 1100), none, .manual, none, none, none⟩) } },
    ⟨0, some 15000, some 500, 61⟩,
    ⟨true, some 600, 60⟩,
    by decide +kernel⟩

theorem witness_CtlPulsesClassifiedAndWatched_mark_makes_room :
    ∃ (s : State) (e : CtlEdge) (mark : WindowEntry),
      s.lku.supply = .mains ∧ s.tc.lockWait = false ∧ s.pgt.claim = none ∧ s.tc.sensors.eot = false
      ∧ s.tc.openRec = false ∧ s.tau.edge = some e ∧ 32 ≤ (longEntries (s.tau.window ++ [⟨true, e.position, e.travel⟩])).length
      ∧ markEntry (s.tc.state == .searchRev)
          (s.tau.window ++ [⟨true, e.position, e.travel⟩]) = some mark
      ∧ s.tc.state = .play ∧ s.tau.directory.length = 16
      ∧ (∃ x ∈ s.tau.directory, x.origin = .found) :=
  ⟨{ deckAt .play (some ⟨.play, .play⟩) (.code .c3) with
      tau := { calm.tau with
        record := some tape
        edge := some ⟨0, some 15000, some 500, 61⟩
        window := List.replicate 31 ⟨true, some 600, 60⟩
        directory :=
            ((List.range 16).map (fun i => ⟨1000 * (i + 1), some (1000 * i + 1100), none, .manual, none, none, none⟩) : List DirEntry).set
            3 ⟨4000, none, none, .found, none, none, none⟩ } },
    ⟨0, some 15000, some 500, 61⟩,
    ⟨true, some 600, 60⟩,
    by decide +kernel⟩

theorem witness_CtlPulsesClassifiedAndWatched_ident_first :
    ∃ (s : State) (n sum : Nat),
      s.lku.supply = .mains ∧ s.tc.state = .play ∧ s.tc.lockWait = false ∧ s.pgt.claim = none
      ∧ s.svu.ident = .running none n sum :=
  ⟨{ playing with svu := { playing.svu with ident := .running none 0 0 } },
    0,
    0,
    by decide +kernel⟩

theorem witness_CtlPulsesClassifiedAndWatched_ident_blank :
    ∃ (s : State),
      s.lku.supply = .mains ∧ s.tc.state = .play ∧ s.tc.lockWait = false ∧ s.pgt.claim = none
      ∧ s.svu.ident = .blank :=
  ⟨{ playing with svu := { playing.svu with ident := .blank } }, by decide +kernel⟩

theorem witness_CtlPulsesClassifiedAndWatched_ident_period :
    ∃ (s : State) (before n sum : Nat),
      s.lku.supply = .mains ∧ s.tc.state = .play ∧ s.tc.lockWait = false ∧ s.pgt.claim = none
      ∧ s.svu.ident = .running (some before) n sum ∧ n = 6 :=
  ⟨{ playing with svu := { playing.svu with ident := .running (some 0) 6 60000 } },
    0,
    6,
    60000,
    by decide +kernel⟩

theorem witness_CtlPulsesClassifiedAndWatched_ident_speed :
    ∃ (s : State) (before n sum : Nat),
      s.lku.supply = .mains ∧ s.tc.state = .play ∧ s.tc.lockWait = false ∧ s.pgt.claim = none
      ∧ s.svu.ident = .running (some before) n sum ∧ n = 7 ∧ 8 ≤ sum :=
  ⟨{ playing with svu := { playing.svu with ident := .running (some 0) 7 100000 } },
    0,
    7,
    100000,
    by decide +kernel⟩

theorem witness_CtlPulsesClassifiedAndWatched_elsewhere :
    ∃ (s : State),
      s.lku.supply = .mains ∧ s.tc.state.isReading = false :=
  ⟨calm, by decide +kernel⟩

theorem witness_CtlPulsesClassifiedAndWatched_watchdog :
    ∃ (s : State) (due : Tick),
      s.lku.supply = .mains ∧ s.svu.watchdog = some due ∧ s.svu.ident ≠ .complete :=
  ⟨{ playing with
      svu := { playing.svu with
        watchdog := some 9
        ident := .running none 0 0
        cap := { playing.svu.cap with lock := .speedLock, phaseIn := 8 } } },
    9,
    by decide +kernel⟩

theorem witness_CtlPulsesClassifiedAndWatched_watchdog_known :
    ∃ (s : State) (due : Tick),
      s.lku.supply = .mains ∧ s.svu.watchdog = some due ∧ s.svu.ident = .complete ∧ s.tc.state = .play
      ∧ s.tc.lockWait = false ∧ s.svu.cap.lock = .phaseLock :=
  ⟨{ playing with
      svu := { playing.svu with
        watchdog := some 9
        ident := .complete
        cap := { playing.svu.cap with lock := .phaseLock, phaseIn := 8 } } },
    9,
    by decide +kernel⟩

theorem witness_TunerTimersAct_word :
    ∃ (s : State) (due : Tick),
      s.lku.supply = .mains ∧ s.tnu.wordTimer = some due ∧ s.tnu.wordPending = false :=
  ⟨{ tuned with
      tnu := { tuned.tnu with
        wordTimer := some 180
        word := some ⟨.low, 3000⟩
        wordPending := false } },
    180,
    by decide +kernel⟩

theorem witness_TunerTimersAct_word_waiting :
    ∃ (s : State) (due : Tick),
      s.lku.supply = .mains ∧ s.tnu.wordTimer = some due ∧ s.tnu.wordPending = true ∧ s.tnu.band = some .high
      ∧ s.tnu.base = some 3664 :=
  ⟨{ tuned with
      tnu := { tuned.tnu with
        wordTimer := some 180
        word := some ⟨.low, 3000⟩
        wordPending := true } },
    180,
    by decide +kernel⟩

theorem witness_TunerTimersAct_settling :
    ∃ (s : State) (due : Tick),
      s.lku.supply = .mains ∧ s.tnu.settleTimer = some due :=
  ⟨{ tuned with tnu := { tuned.tnu with state := .settling, settleTimer := some 9 } },
    9,
    by decide +kernel⟩

theorem witness_TunerTimersAct_afc_off :
    ∃ (s : State) (due : Tick),
      s.lku.supply = .mains ∧ s.tnu.afcTimer = some due ∧ s.tnu.afcRuns = false :=
  ⟨{ tuned with tnu := { tuned.tnu with source := .direct } }, 100000, by decide +kernel⟩

theorem witness_TunerTimersAct_afc_up :
    ∃ (s : State) (due : Tick),
      s.lku.supply = .mains ∧ s.tnu.afcTimer = some due ∧ s.tnu.afcRuns = true ∧ s.tnu.afc = 3 :=
  ⟨{ tuned with tnu := { tuned.tnu with afc := 3 } }, 100000, by decide +kernel⟩

theorem witness_TunerTimersAct_afc_limit :
    ∃ (s : State) (due : Tick),
      s.lku.supply = .mains ∧ s.tnu.afcTimer = some due ∧ s.tnu.afcRuns = true ∧ s.tnu.afc = 4 :=
  ⟨{ tuned with tnu := { tuned.tnu with afc := 4 } }, 100000, by decide +kernel⟩

theorem witness_TunerTimersAct_afc_down :
    ∃ (s : State) (due : Tick),
      s.lku.supply = .mains ∧ s.tnu.afcTimer = some due ∧ s.tnu.afcRuns = true ∧ s.tnu.afc = -4 :=
  ⟨{ tuned with tnu := { tuned.tnu with afc := -4 } }, 100000, by decide +kernel⟩

theorem witness_TunerTimersAct_afc_both :
    ∃ (s : State) (due : Tick),
      s.lku.supply = .mains ∧ s.tnu.afcTimer = some due ∧ s.tnu.afcRuns = true ∧ s.tnu.afc = 4 :=
  ⟨{ tuned with tnu := { tuned.tnu with afc := 4 } }, 100000, by decide +kernel⟩

theorem witness_ScansStepAndFindStations_first :
    ∃ (s : State) (b : Int),
      s.lku.supply = .mains ∧ s.pgt.claim = none ∧ s.tnu.base = some b ∧ s.tnu.band = some .low ∧ s.tnu.scanTimer = some 80000
      ∧ s.tnu.scan.phase = .settling ∧ s.tnu.state = .searching ∧ s.tnu.scan.up = true
      ∧ s.tnu.scan.wrapped = false ∧ b + 16 ≤ (s.tnu.limits.limit .low).hi :=
  ⟨{ calm with
      tnu := { calm.tnu with
        state := .searching
        source := .scan
        base := some 3408
        band := some .low
        scan := ⟨true, 1456, false, .settling, 0, 0⟩
        scanTimer := some 80000 } },
    3408,
    by decide +kernel⟩

theorem witness_ScansStepAndFindStations_third :
    ∃ (s : State) (b : Int),
      s.lku.supply = .mains ∧ s.pgt.claim = none ∧ s.tnu.base = some b ∧ s.tnu.band = some .low ∧ s.tnu.scanTimer = some 80000
      ∧ s.tnu.scan.phase = .checking ∧ s.tnu.state = .searching ∧ s.tnu.scan.up = true
      ∧ s.tnu.scan.wrapped = false ∧ b + 16 ≤ (s.tnu.limits.limit .low).hi :=
  ⟨{ calm with
      tnu := { calm.tnu with
        state := .searching
        source := .scan
        base := some 1456
        band := some .low
        scan := ⟨true, 1456, false, .checking, 2, 0⟩
        scanTimer := some 80000 } },
    1456,
    by decide +kernel⟩

theorem witness_ScansStepAndFindStations_top :
    ∃ (s : State) (b : Int),
      s.lku.supply = .mains ∧ s.pgt.claim = none ∧ s.tnu.base = some b ∧ s.tnu.band = some .low ∧ s.tnu.scanTimer = some 80000
      ∧ s.tnu.scan.phase = .settling ∧ s.tnu.state = .searching ∧ s.tnu.scan.up = true
      ∧ s.tnu.scan.wrapped = false :=
  ⟨{ calm with
      tnu := { calm.tnu with
        state := .searching
        source := .scan
        base := some 3409
        band := some .low
        scan := ⟨true, 1456, false, .settling, 0, 0⟩
        scanTimer := some 80000 } },
    3409,
    by decide +kernel⟩

theorem witness_ScansStepAndFindStations_fine_centred :
    ∃ (s : State) (b : Int),
      s.lku.supply = .mains ∧ s.pgt.claim = none ∧ s.tnu.base = some b ∧ s.tnu.band = some .low ∧ s.tnu.scanTimer = some 80000
      ∧ s.tnu.scan.phase = .fineStepping ∧ s.tnu.state = .searching :=
  ⟨{ calm with
      tnu := { calm.tnu with
        state := .searching
        source := .scan
        base := some 1500
        band := some .low
        scan := ⟨true, 1456, false, .fineStepping, 3, 0⟩
        scanTimer := some 80000 } },
    1500,
    by decide +kernel⟩

theorem witness_ScansStepAndFindStations_fine_both :
    ∃ (s : State) (b : Int),
      s.lku.supply = .mains ∧ s.pgt.claim = none ∧ s.tnu.base = some b ∧ s.tnu.band = some .low ∧ s.tnu.scanTimer = some 80000
      ∧ s.tnu.scan.phase = .fineStepping ∧ s.tnu.state = .searching :=
  ⟨{ calm with
      tnu := { calm.tnu with
        state := .searching
        source := .scan
        base := some 1500
        band := some .low
        scan := ⟨true, 1456, false, .fineStepping, 3, 3⟩
        scanTimer := some 80000 } },
    1500,
    by decide +kernel⟩

theorem witness_ScansStepAndFindStations_fine_low :
    ∃ (s : State) (b : Int),
      s.lku.supply = .mains ∧ s.pgt.claim = none ∧ s.tnu.base = some b ∧ s.tnu.band = some .low ∧ s.tnu.scanTimer = some 80000
      ∧ s.tnu.scan.phase = .fineStepping ∧ s.tnu.state = .searching ∧ s.tnu.scan.steps + 1 < 16 :=
  ⟨{ calm with
      tnu := { calm.tnu with
        state := .searching
        source := .scan
        base := some 1500
        band := some .low
        scan := ⟨true, 1456, false, .fineStepping, 3, 14⟩
        scanTimer := some 80000 } },
    1500,
    by decide +kernel⟩

theorem witness_ScansStepAndFindStations_fine_high :
    ∃ (s : State) (b : Int),
      s.lku.supply = .mains ∧ s.pgt.claim = none ∧ s.tnu.base = some b ∧ s.tnu.band = some .low ∧ s.tnu.scanTimer = some 80000
      ∧ s.tnu.scan.phase = .fineStepping ∧ s.tnu.state = .searching ∧ s.tnu.scan.steps + 1 < 16 :=
  ⟨{ calm with
      tnu := { calm.tnu with
        state := .searching
        source := .scan
        base := some 1500
        band := some .low
        scan := ⟨true, 1456, false, .fineStepping, 3, 0⟩
        scanTimer := some 80000 } },
    1500,
    by decide +kernel⟩

theorem witness_ScansStepAndFindStations_dwell :
    ∃ (s : State) (b : Int) (x : Preset),
      s.lku.supply = .mains ∧ s.pgt.claim = none ∧ s.tnu.base = some b ∧ s.tnu.band = some .low ∧ s.tnu.dwellTimer = some 2000000 ∧ s.tnu.candidate = some x
      ∧ s.tnu.state = .installing ∧ s.tnu.scan.up = true ∧ b + 32 ≤ (s.tnu.limits.limit .low).hi
      ∧ s.tnu.installNext < 60 ∧ s.tnu.duplicate x = false :=
  ⟨{ calm with
      tnu := { calm.tnu with
        state := .installing
        base := some 1500
        band := some .low
        scan := ⟨true, 1456, false, .idle, 0, 0⟩
        scanTimer := some 80000
        installResult := .running
        installNext := 59
        installFirst := 5
        candidate := some (station 1500 (some 77))
        dwellTimer := some 2000000
        source := .candidate } },
    1500,
    station 1500 (some 77),
    by decide +kernel⟩

theorem witness_DataLinesForwardedAndTracked_malformed :
    ∃ (p : List Byte) (s : State),
      s.lku.supply = .mains ∧ s.pgt.claim = none ∧ lineItems p = none :=
  ⟨[1, 23, 0, 3], calm, by decide +kernel⟩

theorem witness_DataLinesForwardedAndTracked_copied :
    ∃ (p : List Byte) (s : State),
      s.lku.supply = .mains ∧ s.pgt.claim = none ∧ lineItems p = some (22, .bad, .other) :=
  ⟨[2, 22, 2, 3, 9, 9],
    { tuned with
      dlp := { tuned.dlp with
        filter :=
          tuned.dlp.filter.set 7
            (some ⟨6, 22, false, false, false, true, .bad, .forwardDisplay⟩) }
      lku := { tuned.lku with queue := List.replicate 15 (.copy true []), hold := true } },
    by decide +kernel⟩

theorem witness_DataLinesForwardedAndTracked_dropped_full :
    ∃ (p : List Byte) (s : State),
      s.lku.supply = .mains ∧ s.pgt.claim = none ∧ lineItems p = some (22, .bad, .other) :=
  ⟨[2, 22, 2, 3, 9, 9],
    { tuned with
      dlp := { tuned.dlp with
        filter :=
          tuned.dlp.filter.set 7
            (some ⟨6, 22, false, false, false, true, .bad, .forwardSystem⟩) }
      lku := { tuned.lku with queue := List.replicate 16 (.copy true []), hold := true } },
    by decide +kernel⟩

theorem witness_DataLinesForwardedAndTracked_dropped :
    ∃ (p : List Byte) (s : State),
      s.lku.supply = .mains ∧ s.pgt.claim = none ∧ lineItems p = some (22, .bad, .other) :=
  ⟨[2, 22, 2, 3, 9, 9],
    { tuned with
      dlp := { tuned.dlp with
        filter :=
          tuned.dlp.filter.set 7 (some ⟨6, 22, false, false, false, true, .bad, .drop⟩) }
      lku := { tuned.lku with queue := List.replicate 0 (.copy true []), hold := true } },
    by decide +kernel⟩

theorem witness_DataLinesForwardedAndTracked_label_agreed :
    ∃ (p : List Byte) (s : State),
      s.lku.supply = .mains ∧ s.pgt.claim = none ∧ lineItems p = some (16, .good, .label)
      ∧ contentOf .label p = some (.label 1201 (some label) .running) ∧ s.expected = some 1201
      ∧ lineAction s.dlp.filter 16 .good .label = .drop ∧ s.dlp.tracker = .noLabel
      ∧ s.dlp.proposal = some ⟨1201, some label, .running⟩ :=
  ⟨labelPacket 0 1,
    { tuned with dlp := { tuned.dlp with proposal := some ⟨1201, some label, .running⟩ } },
    by decide +kernel⟩

theorem witness_DataLinesForwardedAndTracked_label_proposed :
    ∃ (p : List Byte) (s : State),
      s.lku.supply = .mains ∧ s.pgt.claim = none ∧ lineItems p = some (16, .good, .label)
      ∧ contentOf .label p = some (.label 1201 (some label) .running) ∧ s.expected = some 1201
      ∧ lineAction s.dlp.filter 16 .good .label = .drop ∧ s.dlp.tracker = .noLabel
      ∧ s.dlp.proposal = none :=
  ⟨labelPacket 0 1, { tuned with dlp := { tuned.dlp with proposal := none } }, by decide +kernel⟩

theorem witness_DataLinesForwardedAndTracked_loss :
    ∃ (s : State) (due : Tick),
      s.lku.supply = .mains ∧ s.pgt.claim = none ∧ s.dlp.lossTimer = some due
      ∧ s.dlp.tracker = .live 1201 (some label) .soon :=
  ⟨{ tuned with
      dlp := { tuned.dlp with tracker := .live 1201 (some label) .soon, lossTimer := some 9 } },
    9,
    by decide +kernel⟩

theorem witness_SecondsAdvanceTheClock_backup :
    ∃ (s : State),
      s.lku.supply ≠ .mains :=
  ⟨dark, by decide +kernel⟩

theorem witness_SecondsAdvanceTheClock_mains :
    ∃ (s : State),
      s.lku.supply = .mains ∧ s.timerQuiet :=
  ⟨calm, by decide +kernel⟩

theorem witness_SecondsAdvanceTheClock_wrap :
    ∃ (s : State),
      s.lku.supply = .mains ∧ s.timerQuiet ∧ s.cku.now.valid = true :=
  ⟨clockAt ⟨31, 12, 2099, 23, 59, 59⟩ calm, by decide +kernel⟩

theorem witness_SecondsAdvanceTheClock_counts :
    ∃ (s : State),
      holdCountEnds s = false ∧ startCountEnds s = false :=
  ⟨calm, by decide +kernel⟩

theorem witness_TimerCountsRunOut_hold :
    ∃ (s : State) (n : Nat),
      s.lku.supply = .mains ∧ s.pgt.records.length = 16 ∧ n ∈ slots ∧ s.pgt.claim = some n
      ∧ s.pgt.engaged = true ∧ (s.slot n).state = .starting
      ∧ (∀ j ∈ slots, j ≠ n → (s.slot j).state ≠ .armed ∧ (s.slot j).state ≠ .deferred)
      ∧ s.cku.now ≠ ⟨31, 12, 2099, 23, 59, 59⟩ ∧ (s.slot n).recalled = false
      ∧ (s.slot n).startCount = none ∧ (s.slot n).holdCount = some 1
      ∧ (s.slot n).labelSeen = true ∧ (s.slot n).phase = .hold ∧ s.pgt.again = none
      ∧ s.tc.state = .recordPause ∧ s.tc.lockWait = false ∧ s.tc.sensors.dew = false
      ∧ s.mdu.drum.state ≠ .latchedOff
      ∧ State.hasReached { s with cku := { s.cku with
          now := s.cku.now.advance, prescaler := 0, holdOff := s.cku.holdOff - 1 } }
        ((s.slot n).waitDeadline s.lku.params) = false :=
  ⟨clockAt ⟨14, 3, 2031, 20, 20, 0⟩
      (engagedWith { labelRec with state := .starting, phase := .hold, holdCount := some 1, labelSeen := true } (some 3) (deckAt .recordPause (some ⟨.recordPause, .recordPause⟩) (.code .c2))),
    3,
    by decide +kernel⟩

theorem witness_TimerCountsRunOut_start :
    ∃ (s : State) (n : Nat),
      s.lku.supply = .mains ∧ s.pgt.records.length = 16 ∧ n ∈ slots ∧ s.pgt.claim = some n
      ∧ s.pgt.engaged = true ∧ (s.slot n).state = .starting
      ∧ (∀ j ∈ slots, j ≠ n → (s.slot j).state ≠ .armed ∧ (s.slot j).state ≠ .deferred)
      ∧ s.cku.now ≠ ⟨31, 12, 2099, 23, 59, 59⟩ ∧ (s.slot n).recalled = false
      ∧ (s.slot n).startCount = some 1 ∧ (s.slot n).repeats = .once
      ∧ s.tc.goal.map Goal.target = some .stop :=
  ⟨clockAt ⟨14, 3, 2031, 20, 20, 0⟩
      (engagedWith { clockRec with state := .starting, phase := .go, startCount := some 1 } (some 3) (deckAt .threadedStop (some ⟨.stop, .threadedStop⟩) (.code .c2))),
    3,
    by decide +kernel⟩

theorem witness_LineInputsActAtTheirEdges_same :
    ∃ (i : Fin 8) (v : PinLevel) (s : State),
      s.lku.supply = .mains ∧ (s.line i.val).output = false ∧ (s.line i.val).event = .null
      ∧ s.settledLevel i.val = v :=
  ⟨7,
    .high,
    { engagedWith clockRec none playing with
      lnu := { calm.lnu with
        lines := calm.lnu.lines.set 7 ⟨false, .null, false, .low⟩
        settled := calm.lnu.settled.set 7 .high } },
    by decide +kernel⟩

theorem witness_LineInputsActAtTheirEdges_null :
    ∃ (i : Fin 8) (v : PinLevel) (s : State),
      s.lku.supply = .mains ∧ (s.line i.val).output = false ∧ (s.line i.val).event = .null
      ∧ s.settledLevel i.val ≠ v :=
  ⟨7,
    .low,
    { engagedWith clockRec none playing with
      lnu := { calm.lnu with
        lines := calm.lnu.lines.set 7 ⟨false, .null, false, .low⟩
        settled := calm.lnu.settled.set 7 .high } },
    by decide +kernel⟩

theorem witness_LineInputsActAtTheirEdges_release :
    ∃ (i : Fin 8) (v : PinLevel) (s : State),
      s.lku.supply = .mains ∧ (s.line i.val).output = false ∧ (s.line i.val).event = .counterZero
      ∧ s.settledLevel i.val ≠ v ∧ v ≠ (s.line i.val).active :=
  ⟨7,
    .low,
    { engagedWith clockRec none playing with
      lnu := { calm.lnu with
        lines := calm.lnu.lines.set 7 ⟨false, .counterZero, false, .high⟩
        settled := calm.lnu.settled.set 7 .high } },
    by decide +kernel⟩

theorem witness_LineInputsActAtTheirEdges_zero :
    ∃ (i : Fin 8) (v : PinLevel) (s : State),
      s.lku.supply = .mains ∧ (s.line i.val).output = false ∧ (s.line i.val).event = .counterZero
      ∧ s.settledLevel i.val ≠ v ∧ v = (s.line i.val).active :=
  ⟨7,
    .low,
    { engagedWith clockRec none playing with
      lnu := { calm.lnu with
        lines := calm.lnu.lines.set 7 ⟨false, .counterZero, false, .low⟩
        settled := calm.lnu.settled.set 7 .high } },
    by decide +kernel⟩

theorem witness_LineInputsActAtTheirEdges_stop :
    ∃ (i : Fin 8) (v : PinLevel) (s : State),
      s.lku.supply = .mains ∧ (s.line i.val).output = false ∧ (s.line i.val).event = .extStopRequest
      ∧ s.settledLevel i.val ≠ v ∧ v = (s.line i.val).active ∧ s.pgt.engaged = true :=
  ⟨7,
    .low,
    { engagedWith clockRec none playing with
      lnu := { calm.lnu with
        lines := calm.lnu.lines.set 7 ⟨false, .extStopRequest, false, .low⟩
        settled := calm.lnu.settled.set 7 .high } },
    by decide +kernel⟩

theorem witness_LineInputsActAtTheirEdges_ext_record :
    ∃ (i : Fin 8) (v : PinLevel) (s : State),
      s.lku.supply = .mains ∧ (s.line i.val).output = false ∧ s.settledLevel i.val ≠ v
      ∧ (s.line i.val).event = .extRecordRequest ∧ v = (s.line i.val).active
      ∧ s.plain ∧ s.tc.state = .recordPause ∧ s.tc.sensors.cam = .code .c2
      ∧ checkRequest ⟨some .record, some s.tc.userSpeed, .line⟩
        { s with
          pins := { s.pins with lines := s.pins.lines.set i.val v }
          lnu := { s.lnu with settled := s.lnu.settled.set i.val v } } = none :=
  ⟨7,
    .low,
    { deckAt .recordPause (some ⟨.recordPause, .recordPause⟩) (.code .c2) with
      lnu := { calm.lnu with
        lines := calm.lnu.lines.set 7 ⟨false, .extRecordRequest, false, .low⟩
        settled := calm.lnu.settled.set 7 .high }
      pgt := { calm.pgt with engaged := false }
      tau := { calm.tau with record := some tape } },
    by decide +kernel⟩

theorem witness_LineInputsActAtTheirEdges_ext_record_open :
    ∃ (i : Fin 8) (v : PinLevel) (s : State),
      s.lku.supply = .mains ∧ (s.line i.val).output = false ∧ s.settledLevel i.val ≠ v
      ∧ (s.line i.val).event = .extRecordRequest ∧ v = (s.line i.val).active
      ∧ s.plain ∧ s.tc.state = .recordPause ∧ s.tc.sensors.cam = .code .c2 ∧ s.tc.openRec = true
      ∧ checkRequest ⟨some .record, some s.tc.userSpeed, .line⟩
        { s with
          pins := { s.pins with lines := s.pins.lines.set i.val v }
          lnu := { s.lnu with settled := s.lnu.settled.set i.val v } } = none :=
  ⟨7,
    .low,
    { { (deckAt .recordPause (some ⟨.recordPause, .recordPause⟩) (.code .c2)) with
        tc := { ((deckAt .recordPause (some ⟨.recordPause, .recordPause⟩) (.code .c2))).tc with
          openRec := true
          recSpeed := .ep } } with
      lnu := { calm.lnu with
        lines := calm.lnu.lines.set 7 ⟨false, .extRecordRequest, false, .low⟩
        settled := calm.lnu.settled.set 7 .high }
      pgt := { calm.pgt with engaged := false }
      tau := { calm.tau with record := some tape } },
    by decide +kernel⟩

theorem witness_LineInputsActAtTheirEdges_ext_record_refused :
    ∃ (i : Fin 8) (v : PinLevel) (s : State),
      s.lku.supply = .mains ∧ (s.line i.val).output = false ∧ s.settledLevel i.val ≠ v
      ∧ (s.line i.val).event = .extRecordRequest ∧ v = (s.line i.val).active
      ∧ s.tau.record.map Cassette.tab = some .no
      ∧ checkRequest ⟨some .record, some s.tc.userSpeed, .line⟩
        { s with
          pins := { s.pins with lines := s.pins.lines.set i.val v }
          lnu := { s.lnu with settled := s.lnu.settled.set i.val v } } ≠ none :=
  ⟨7,
    .low,
    { deckAt .recordPause (some ⟨.recordPause, .recordPause⟩) (.code .c2) with
      lnu := { calm.lnu with
        lines := calm.lnu.lines.set 7 ⟨false, .extRecordRequest, false, .low⟩
        settled := calm.lnu.settled.set 7 .high }
      pgt := { calm.pgt with engaged := false }
      tau := { calm.tau with record := some { tape with tab := .no } } },
    by decide +kernel⟩

theorem witness_LineInputsActAtTheirEdges_ext_record_engaged :
    ∃ (i : Fin 8) (v : PinLevel) (s : State),
      s.lku.supply = .mains ∧ (s.line i.val).output = false ∧ s.settledLevel i.val ≠ v
      ∧ (s.line i.val).event = .extRecordRequest ∧ v = (s.line i.val).active
      ∧ s.pgt.engaged = true
      ∧ checkRequest ⟨some .record, some s.tc.userSpeed, .line⟩
        { s with
          pins := { s.pins with lines := s.pins.lines.set i.val v }
          lnu := { s.lnu with settled := s.lnu.settled.set i.val v } } ≠ none :=
  ⟨7,
    .low,
    { deckAt .recordPause (some ⟨.recordPause, .recordPause⟩) (.code .c2) with
      lnu := { calm.lnu with
        lines := calm.lnu.lines.set 7 ⟨false, .extRecordRequest, false, .low⟩
        settled := calm.lnu.settled.set 7 .high }
      pgt := { calm.pgt with engaged := true }
      tau := { calm.tau with record := some tape } },
    by decide +kernel⟩

theorem witness_LineInputsActAtTheirEdges_ext_record_released :
    ∃ (i : Fin 8) (v : PinLevel) (s : State),
      s.lku.supply = .mains ∧ (s.line i.val).output = false ∧ s.settledLevel i.val ≠ v
      ∧ (s.line i.val).event = .extRecordRequest ∧ v ≠ (s.line i.val).active
      ∧ s.plain ∧ s.tc.state = .threadedStop
      ∧ checkRequest ⟨some .stop, some s.tc.userSpeed, .line⟩
        { s with
          pins := { s.pins with lines := s.pins.lines.set i.val v }
          lnu := { s.lnu with settled := s.lnu.settled.set i.val v } } = none :=
  ⟨7,
    .high,
    { deckAt .threadedStop (some ⟨.stop, .threadedStop⟩) (.code .c2) with
      lnu := { calm.lnu with
        lines := calm.lnu.lines.set 7 ⟨false, .extRecordRequest, false, .low⟩
        settled := calm.lnu.settled.set 7 .low }
      pgt := { calm.pgt with engaged := false }
      tau := { calm.tau with record := some tape } },
    by decide +kernel⟩

theorem witness_LineInputsActAtTheirEdges_ext_stop :
    ∃ (i : Fin 8) (v : PinLevel) (s : State),
      s.lku.supply = .mains ∧ (s.line i.val).output = false ∧ s.settledLevel i.val ≠ v
      ∧ (s.line i.val).event = .extStopRequest ∧ v = (s.line i.val).active
      ∧ s.plain ∧ s.tc.state = .threadedStop
      ∧ checkRequest ⟨some .stop, some s.tc.userSpeed, .line⟩
        { s with
          pins := { s.pins with lines := s.pins.lines.set i.val v }
          lnu := { s.lnu with settled := s.lnu.settled.set i.val v } } = none :=
  ⟨7,
    .low,
    { deckAt .threadedStop (some ⟨.stop, .threadedStop⟩) (.code .c2) with
      lnu := { calm.lnu with
        lines := calm.lnu.lines.set 7 ⟨false, .extStopRequest, false, .low⟩
        settled := calm.lnu.settled.set 7 .high }
      pgt := { calm.pgt with engaged := false }
      tau := { calm.tau with record := some tape } },
    by decide +kernel⟩

theorem witness_ReceiverAndTransmitterWork_class :
    ∃ (b : Byte) (s : State),
      s.lku.supply = .mains ∧ s.lku.rx.phase = .idle ∧ b = 2 :=
  ⟨2, { calm with lku := { calm.lku with rx := ⟨.idle, 0, 0, [], none⟩ } }, by decide +kernel⟩

theorem witness_ReceiverAndTransmitterWork_bad_class :
    ∃ (b : Byte) (s : State),
      s.lku.supply = .mains ∧ s.lku.rx.phase = .idle ∧ b ≠ 1 ∧ b ≠ 2 :=
  ⟨3, { calm with lku := { calm.lku with rx := ⟨.idle, 0, 0, [], none⟩ } }, by decide +kernel⟩

theorem witness_ReceiverAndTransmitterWork_length :
    ∃ (b : Byte) (s : State),
      s.lku.supply = .mains ∧ s.lku.rx.phase = .length ∧ b.toNat = 40 :=
  ⟨40,
    { calm with lku := { calm.lku with rx := ⟨.length, 2, 0, [], some 1000⟩ } },
    by decide +kernel⟩

theorem witness_ReceiverAndTransmitterWork_length0 :
    ∃ (b : Byte) (s : State),
      s.lku.supply = .mains ∧ s.lku.rx.phase = .length ∧ b = 0 :=
  ⟨0,
    { calm with lku := { calm.lku with rx := ⟨.length, 2, 0, [], some 1000⟩ } },
    by decide +kernel⟩

theorem witness_ReceiverAndTransmitterWork_bad_length :
    ∃ (b : Byte) (s : State),
      s.lku.supply = .mains ∧ s.lku.rx.phase = .length ∧ b.toNat = 41 :=
  ⟨41,
    { calm with lku := { calm.lku with rx := ⟨.length, 2, 0, [], some 1000⟩ } },
    by decide +kernel⟩

theorem witness_ReceiverAndTransmitterWork_payload :
    ∃ (b : Byte) (s : State),
      s.lku.supply = .mains ∧ s.lku.rx.phase = .payload ∧ s.lku.rx.payload.length + 1 = s.lku.rx.len ∧ b = 5 :=
  ⟨5,
    { calm with lku := { calm.lku with rx := ⟨.payload, 2, 2, [0x51], some 1000⟩ } },
    by decide +kernel⟩

theorem witness_ReceiverAndTransmitterWork_payload1 :
    ∃ (b : Byte) (s : State),
      s.lku.supply = .mains ∧ s.lku.rx.phase = .payload ∧ s.lku.rx.payload.length + 1 < s.lku.rx.len ∧ b = 5 :=
  ⟨5,
    { calm with lku := { calm.lku with rx := ⟨.payload, 2, 3, [0x51], some 1000⟩ } },
    by decide +kernel⟩

theorem witness_ReceiverAndTransmitterWork_bad_check :
    ∃ (b : Byte) (s : State),
      s.lku.supply = .mains ∧ s.lku.rx.phase = .check
      ∧ s.lku.rx.cls + BitVec.ofNat 8 s.lku.rx.len + byteSum s.lku.rx.payload + b ≠ 0 :=
  ⟨0xA5,
    { calm with lku := { calm.lku with rx := ⟨.check, 2, 2, [0x51, 7], some 1000⟩ } },
    by decide +kernel⟩

theorem witness_ReceiverAndTransmitterWork_request :
    ∃ (b : Byte) (s : State),
      s.lku.supply = .mains ∧ s.lku.rx.phase = .check ∧ s.lku.rx.cls = 2 ∧ s.lku.rx.payload = 0x51 :: 7 :: []
      ∧ s.lku.rx.cls + BitVec.ofNat 8 s.lku.rx.len + byteSum s.lku.rx.payload + b = 0 :=
  ⟨0xA4,
    { calm with lku := { calm.lku with rx := ⟨.check, 2, 2, [0x51, 7], some 1000⟩ } },
    by decide +kernel⟩

theorem witness_ReceiverAndTransmitterWork_short_request :
    ∃ (b : Byte) (s : State),
      s.lku.supply = .mains ∧ s.lku.rx.phase = .check ∧ s.lku.rx.cls = 2 ∧ s.lku.rx.payload.length < 2
      ∧ s.lku.rx.cls + BitVec.ofNat 8 s.lku.rx.len + byteSum s.lku.rx.payload + b = 0 :=
  ⟨0xAC,
    { calm with lku := { calm.lku with rx := ⟨.check, 2, 1, [0x51], some 1000⟩ } },
    by decide +kernel⟩

theorem witness_ReceiverAndTransmitterWork_line :
    ∃ (b : Byte) (s : State),
      s.lku.supply = .mains ∧ s.lku.rx.phase = .check ∧ s.lku.rx.cls = 1
      ∧ s.lku.rx.cls + BitVec.ofNat 8 s.lku.rx.len + byteSum s.lku.rx.payload + b = 0 :=
  ⟨0xFF,
    { calm with lku := { calm.lku with rx := ⟨.check, 1, 0, [], some 1000⟩ } },
    by decide +kernel⟩

theorem witness_ReceiverAndTransmitterWork_discarding :
    ∃ (b : Byte) (s : State),
      s.lku.supply = .mains ∧ s.lku.rx.phase = .discard ∧ s.lku.rx.gapTimer = some 1000 ∧ b = 9 :=
  ⟨9,
    { calm with lku := { calm.lku with rx := ⟨.discard, 0, 0, [], some 1000⟩ } },
    by decide +kernel⟩

theorem witness_ReceiverAndTransmitterWork_sent :
    ∃ (s : State),
      s.lku.supply = .mains ∧ s.lku.queue = Packet.copy true [] :: [] ∧ s.lku.wanted = [] :=
  ⟨{ calm with lku := { calm.lku with queue := [.copy true []], tx := some (.copy false []) } },
    by decide +kernel⟩

theorem witness_PowerFailStopsEverything :
    ∃ (s : State),
      s.lku.supply = .mains :=
  ⟨{ playing with
      lku := { playing.lku with latched := [.dew] }
      mdu := { playing.mdu with reel := { playing.mdu.reel with state := .latchedOff } } },
    by decide +kernel⟩

theorem witness_OutageHoldsTheBackupDomain_failed :
    ∃ (s : State) (c : Instr),
      s.lku.supply = .failed ∧ s.lku.supply ≠ .mains ∧ needsMains c = true :=
  ⟨dark, .moveTimeout, by decide +kernel⟩

theorem witness_OutageHoldsTheBackupDomain_returning :
    ∃ (s : State),
      s.lku.supply = .returning :=
  ⟨returning, by decide +kernel⟩

theorem witness_OutageHoldsTheBackupDomain_mains :
    ∃ (s : State),
      s.lku.supply ≠ .failed :=
  ⟨calm, by decide +kernel⟩

theorem witness_StartsGiveStartValues_cold :
    ∃ (pins : Pins) (due : Tick) (s : State),
      s.lku.supply = .returning ∧ s.lku.returnTimer = some due ∧ pins.backupGood = false ∧ pins.cassette = false
      ∧ pins.dew = true ∧ pins.supply = 89 :=
  ⟨{ inputsAtReset with supply := 89, dew := true, backupGood := false },
    1000000,
    returning,
    by decide +kernel⟩

theorem witness_StartsGiveStartValues_cold_cassette :
    ∃ (pins : Pins) (due : Tick) (s : State),
      s.lku.supply = .returning ∧ s.lku.returnTimer = some due ∧ pins.backupGood = false ∧ pins.cassette = true
      ∧ pins.cam = .code .c1 :=
  ⟨{ inputsAtReset with cassette := true, cam := .code .c1, tab := true, backupGood := false },
    1000000,
    { tuned with
      lku := { returning.lku with
        returnTimer := some 1000000
        params := { Params.default with preRoll := 9 } }
      tc := returning.tc },
    by decide +kernel⟩

theorem witness_StartsGiveStartValues_warm :
    ∃ (pins : Pins) (due : Tick) (s : State),
      s.lku.supply = .returning ∧ s.lku.returnTimer = some due ∧ pins.backupGood = true
      ∧ (∀ n ∈ slots, (s.slot n).state ≠ .armed ∧ (s.slot n).state ≠ .deferred)
      ∧ s.tnu.lastTuned = none :=
  ⟨{ inputsAtReset with supply := 90, backupGood := true },
    1000000,
    { calm with
      lku := { returning.lku with
        returnTimer := some 1000000
        params := { Params.default with preRoll := 9 } }
      tc := returning.tc },
    by decide +kernel⟩

theorem witness_StartsGiveStartValues_warm_tuned :
    ∃ (pins : Pins) (due : Tick) (s : State),
      s.lku.supply = .returning ∧ s.lku.returnTimer = some due ∧ pins.backupGood = true
      ∧ (∀ n ∈ slots, (s.slot n).state ≠ .armed ∧ (s.slot n).state ≠ .deferred)
      ∧ s.tnu.lastTuned = some 7 ∧ s.tnu.preset 7 = some (station 3664 (some 1201))
      ∧ pins.cassette = true ∧ pins.cam = .code .c1 :=
  ⟨{ inputsAtReset with cassette := true, cam := .code .c1, backupGood := true },
    1000000,
    { tuned with
      lku := { returning.lku with
        returnTimer := some 1000000
        params := { Params.default with preRoll := 9 } }
      tc := returning.tc },
    by decide +kernel⟩

theorem witness_StartsGiveStartValues_not_yet :
    ∃ (pins : Pins) (due : Tick) (s : State),
      s.lku.supply = .returning ∧ s.lku.returnTimer = some due ∧ pins.backupGood = true
      ∧ s.pgt.records.length = 16 ∧ (s.slot 3).state = .armed ∧ (s.slot 3).repeats = .once
      ∧ (∀ j ∈ slots, j ≠ 3 → (s.slot j).state ≠ .armed ∧ (s.slot j).state ≠ .deferred)
      ∧ ¬(s.slot 3).trigger s.lku.params ≤ (s.clock : Int) :=
  ⟨{ inputsAtReset with supply := 90, backupGood := true },
    1000000,
    { clockAt ⟨14, 3, 2031, 19, 0, 0⟩ (engagedWith clockRec none tuned) with
      lku := { returning.lku with returnTimer := some 1000000 }
      tc := returning.tc
      pgt := { calm.pgt with records := calm.pgt.records.set 2 clockRec, engaged := true } },
    by decide +kernel⟩

theorem witness_StartsGiveStartValues_not_engaged :
    ∃ (pins : Pins) (due : Tick) (s : State),
      s.lku.supply = .returning ∧ s.lku.returnTimer = some due ∧ pins.backupGood = true
      ∧ s.pgt.records.length = 16 ∧ (s.slot 3).state = .armed ∧ (s.slot 3).repeats = .once
      ∧ (∀ j ∈ slots, j ≠ 3 → (s.slot j).state ≠ .armed ∧ (s.slot j).state ≠ .deferred)
      ∧ (s.slot 3).trigger s.lku.params ≤ (s.clock : Int) ∧ s.pgt.engaged = false :=
  ⟨{ inputsAtReset with supply := 90, backupGood := true },
    1000000,
    { clockAt ⟨14, 3, 2031, 20, 0, 0⟩ (engagedWith clockRec none tuned) with
      lku := { returning.lku with returnTimer := some 1000000 }
      tc := returning.tc
      pgt := { calm.pgt with records := calm.pgt.records.set 2 clockRec, engaged := false } },
    by decide +kernel⟩

theorem witness_StartsGiveStartValues_late :
    ∃ (pins : Pins) (due : Tick) (s : State),
      s.lku.supply = .returning ∧ s.lku.returnTimer = some due ∧ pins.backupGood = true
      ∧ s.pgt.records.length = 16 ∧ (s.slot 3).state = .armed ∧ (s.slot 3).repeats = .once
      ∧ (∀ j ∈ slots, j ≠ 3 → (s.slot j).state ≠ .armed ∧ (s.slot j).state ≠ .deferred)
      ∧ (s.slot 3).trigger s.lku.params ≤ (s.clock : Int) ∧ s.pgt.engaged = true
      ∧ (s.slot 3).deadline s.lku.params ≤ (s.clock : Int) :=
  ⟨{ inputsAtReset with supply := 90, backupGood := true },
    1000000,
    { clockAt ⟨14, 3, 2031, 21, 0, 0⟩ (engagedWith clockRec none tuned) with
      lku := { returning.lku with returnTimer := some 1000000 }
      tc := returning.tc
      pgt := { calm.pgt with records := calm.pgt.records.set 2 clockRec, engaged := true } },
    by decide +kernel⟩

theorem witness_StartsGiveStartValues_no_preset :
    ∃ (pins : Pins) (due : Tick) (s : State),
      s.lku.supply = .returning ∧ s.lku.returnTimer = some due ∧ pins.backupGood = true
      ∧ s.pgt.records.length = 16 ∧ (s.slot 3).state = .armed ∧ (s.slot 3).repeats = .once
      ∧ (∀ j ∈ slots, j ≠ 3 → (s.slot j).state ≠ .armed ∧ (s.slot j).state ≠ .deferred)
      ∧ (s.slot 3).trigger s.lku.params ≤ (s.clock : Int) ∧ s.pgt.engaged = true
      ∧ ¬(s.slot 3).deadline s.lku.params ≤ (s.clock : Int) ∧ (s.slot 3).source = .preset 7 ∧ s.tnu.preset 7 = none :=
  ⟨{ inputsAtReset with supply := 90, backupGood := true },
    1000000,
    { clockAt ⟨14, 3, 2031, 20, 0, 0⟩ (engagedWith clockRec none calm) with
      lku := { returning.lku with returnTimer := some 1000000 }
      tc := returning.tc
      pgt := { calm.pgt with records := calm.pgt.records.set 2 clockRec, engaged := true } },
    by decide +kernel⟩

theorem witness_StartsGiveStartValues_no_cassette :
    ∃ (pins : Pins) (due : Tick) (s : State),
      s.lku.supply = .returning ∧ s.lku.returnTimer = some due ∧ pins.backupGood = true
      ∧ s.pgt.records.length = 16 ∧ (s.slot 3).state = .armed ∧ (s.slot 3).repeats = .once
      ∧ (∀ j ∈ slots, j ≠ 3 → (s.slot j).state ≠ .armed ∧ (s.slot j).state ≠ .deferred)
      ∧ (s.slot 3).trigger s.lku.params ≤ (s.clock : Int) ∧ s.pgt.engaged = true
      ∧ ¬(s.slot 3).deadline s.lku.params ≤ (s.clock : Int) ∧ (s.slot 3).source = .preset 7 ∧ (s.tnu.preset 7).isSome = true
      ∧ pins.cassette = false :=
  ⟨{ inputsAtReset with supply := 90, backupGood := true },
    1000000,
    { clockAt ⟨14, 3, 2031, 20, 0, 0⟩ (engagedWith clockRec none tuned) with
      lku := { returning.lku with returnTimer := some 1000000 }
      tc := returning.tc
      pgt := { calm.pgt with records := calm.pgt.records.set 2 clockRec, engaged := true } },
    by decide +kernel⟩

theorem witness_StartsGiveStartValues_no_cassette_external :
    ∃ (pins : Pins) (due : Tick) (s : State),
      s.lku.supply = .returning ∧ s.lku.returnTimer = some due ∧ pins.backupGood = true
      ∧ s.pgt.records.length = 16 ∧ (s.slot 3).state = .armed ∧ (s.slot 3).repeats = .once
      ∧ (∀ j ∈ slots, j ≠ 3 → (s.slot j).state ≠ .armed ∧ (s.slot j).state ≠ .deferred)
      ∧ (s.slot 3).trigger s.lku.params ≤ (s.clock : Int) ∧ s.pgt.engaged = true
      ∧ ¬(s.slot 3).deadline s.lku.params ≤ (s.clock : Int) ∧ (s.slot 3).source = .external ∧ pins.cassette = false :=
  ⟨{ inputsAtReset with supply := 90, backupGood := true },
    1000000,
    { clockAt ⟨14, 3, 2031, 20, 0, 0⟩
        (engagedWith { clockRec with source := .external } none calm) with
      lku := { returning.lku with returnTimer := some 1000000 }
      tc := returning.tc
      pgt := { calm.pgt with
        records := calm.pgt.records.set 2 { clockRec with source := .external }
        engaged := true } },
    by decide +kernel⟩

theorem witness_StartsGiveStartValues_watches :
    ∃ (pins : Pins) (due : Tick) (s : State),
      s.lku.supply = .returning ∧ s.lku.returnTimer = some due ∧ pins.backupGood = true
      ∧ s.pgt.records.length = 16 ∧ (s.slot 3).state = .armed ∧ (s.slot 3).repeats = .once
      ∧ (∀ j ∈ slots, j ≠ 3 → (s.slot j).state ≠ .armed ∧ (s.slot j).state ≠ .deferred)
      ∧ (s.slot 3).trigger s.lku.params ≤ (s.clock : Int) ∧ s.pgt.engaged = true
      ∧ ¬(s.slot 3).deadline s.lku.params ≤ (s.clock : Int) ∧ (s.slot 3).source = .preset 7 ∧ (s.tnu.preset 7).isSome = true
      ∧ (s.slot 3).labelControl = true ∧ pins.cassette = true ∧ pins.cam = .code .c1
      ∧ pins.tab = true ∧ pins.eot = false :=
  ⟨{ inputsAtReset with cassette := true, cam := .code .c1, tab := true, backupGood := true },
    1000000,
    { clockAt ⟨14, 3, 2031, 20, 11, 0⟩ (engagedWith labelRec none tuned) with
      lku := { returning.lku with returnTimer := some 1000000 }
      tc := returning.tc
      pgt := { calm.pgt with records := calm.pgt.records.set 2 labelRec, engaged := true } },
    by decide +kernel⟩

theorem witness_SamplesClassifyTheCassette_wrap :
    ∃ (s : State) (r : Cassette),
      s.lku.supply = .mains ∧ s.pgt.claim = none ∧ s.tc.state ∈ [.play, .record, .searchFwd]
      ∧ s.tau.record = some r ∧ s.tau.supplyRev.measuring = true ∧ s.tau.supplyRev.pulses ≠ 0
      ∧ s.tau.takeUpFresh = false ∧ s.tau.classEntry = none :=
  ⟨{ playing with
      tau := { calm.tau with
        record := some tape
        takeUpFresh := false
        outliers := 0
        supplyRev := ⟨true, 1, 1799, 0⟩
        table := calm.tau.table.set 7 (some t120) } },
    tape,
    by decide +kernel⟩

theorem witness_SamplesClassifyTheCassette_gathers :
    ∃ (s : State) (r : Cassette),
      s.lku.supply = .mains ∧ s.pgt.claim = none ∧ s.tc.state ∈ [.play, .record, .searchFwd]
      ∧ s.tau.record = some r ∧ s.tau.supplyRev.measuring = true ∧ s.tau.supplyRev.pulses ≠ 0
      ∧ s.tau.takeUpFresh = true ∧ r.wt = some 776 ∧ r.cls = .unknown
      ∧ r.samples.length = 0 :=
  ⟨{ playing with
      tau := { calm.tau with
        record := some { tape with wt := some 776, samples := [] }
        takeUpFresh := true
        outliers := 0
        supplyRev := ⟨true, 1, 1799, 0⟩
        table := calm.tau.table.set 7 (some t120) } },
    { tape with wt := some 776, samples := [] },
    by decide +kernel⟩

theorem witness_SamplesClassifyTheCassette_spread :
    ∃ (s : State) (r : Cassette),
      s.lku.supply = .mains ∧ s.pgt.claim = none ∧ s.tc.state ∈ [.play, .record, .searchFwd]
      ∧ s.tau.record = some r ∧ s.tau.supplyRev.measuring = true ∧ s.tau.supplyRev.pulses ≠ 0
      ∧ s.tau.takeUpFresh = true ∧ r.wt = some 776 ∧ r.cls = .unknown
      ∧ r.samples = [962176, 962176, 500000] :=
  ⟨{ playing with
      tau := { calm.tau with
        record := some { tape with wt := some 776, samples := [962176, 962176, 500000] }
        takeUpFresh := true
        outliers := 0
        supplyRev := ⟨true, 1, 1799, 0⟩
        table := calm.tau.table.set 7 (some t120) } },
    { tape with wt := some 776, samples := [962176, 962176, 500000] },
    by decide +kernel⟩

theorem witness_SamplesClassifyTheCassette_unclassified :
    ∃ (s : State) (r : Cassette),
      s.lku.supply = .mains ∧ s.pgt.claim = none ∧ s.tc.state ∈ [.play, .record, .searchFwd]
      ∧ s.tau.record = some r ∧ s.tau.supplyRev.measuring = true ∧ s.tau.supplyRev.pulses ≠ 0
      ∧ s.tau.takeUpFresh = true ∧ r.wt = some 776 ∧ r.cls = .unknown
      ∧ r.samples = [962176, 962176, 962176] ∧ s.tau.table = List.replicate 8 none :=
  ⟨{ playing with
      tau := { calm.tau with
        record := some { tape with wt := some 776, samples := [962176, 962176, 962176] }
        takeUpFresh := true
        outliers := 0
        supplyRev := ⟨true, 1, 1799, 0⟩
        table := calm.tau.table } },
    { tape with wt := some 776, samples := [962176, 962176, 962176] },
    by decide +kernel⟩

theorem witness_SamplesClassifyTheCassette_class :
    ∃ (s : State) (r : Cassette),
      s.lku.supply = .mains ∧ s.pgt.claim = none ∧ s.tc.state ∈ [.play, .record, .searchFwd]
      ∧ s.tau.record = some r ∧ s.tau.supplyRev.measuring = true ∧ s.tau.supplyRev.pulses ≠ 0
      ∧ s.tau.takeUpFresh = true ∧ r.wt = some 776 ∧ r.cls = .unknown
      ∧ r.samples = [962176, 962176, 962176, 962176] ∧ chooseEntry s.field 962176 s.tau.table = some 7 :=
  ⟨{ playing with
      tau := { calm.tau with
        record :=
          some { tape with wt := some 776, samples := [962176, 962176, 962176, 962176] }
        takeUpFresh := true
        outliers := 3
        supplyRev := ⟨true, 1, 1799, 0⟩
        table := calm.tau.table.set 7 (some t120) } },
    { tape with wt := some 776, samples := [962176, 962176, 962176, 962176] },
    by decide +kernel⟩

theorem witness_SamplesClassifyTheCassette_near :
    ∃ (s : State) (r : Cassette),
      s.lku.supply = .mains ∧ s.pgt.claim = none ∧ s.tc.state ∈ [.play, .record, .searchFwd]
      ∧ s.tau.record = some r ∧ s.tau.supplyRev.measuring = true ∧ s.tau.supplyRev.pulses ≠ 0
      ∧ s.tau.takeUpFresh = true ∧ r.wt = some 776 ∧ r.cls = .index 7
      ∧ s.tau.entry 7 = some t120 ∧ r.quality ≠ .none :=
  ⟨{ playing with
      tau := { calm.tau with
        record :=
          some
            { tape with
              wt := some 776
              cls := .index 7
              k := some 961664
              quality := .exact
              position := some 500 }
        takeUpFresh := true
        outliers := 3
        supplyRev := ⟨true, 1, 1799, 0⟩
        table := calm.tau.table.set 7 (some t120) } },
    { tape with
      wt := some 776
      cls := .index 7
      k := some 961664
      quality := .exact
      position := some 500 },
    by decide +kernel⟩

theorem witness_SamplesClassifyTheCassette_far :
    ∃ (s : State) (r : Cassette),
      s.lku.supply = .mains ∧ s.pgt.claim = none ∧ s.tc.state ∈ [.play, .record, .searchFwd]
      ∧ s.tau.record = some r ∧ s.tau.supplyRev.measuring = true ∧ s.tau.supplyRev.pulses ≠ 0
      ∧ s.tau.takeUpFresh = true ∧ r.wt = some 900 ∧ r.cls = .index 7
      ∧ s.tau.entry 7 = some t120 ∧ r.quality ≠ .none ∧ s.tau.outliers = 2 :=
  ⟨{ playing with
      tau := { calm.tau with
        record :=
          some
            { tape with
              wt := some 900
              cls := .index 7
              k := some 961664
              quality := .exact
              position := some 500 }
        takeUpFresh := true
        outliers := 2
        supplyRev := ⟨true, 1, 1799, 0⟩
        table := calm.tau.table.set 7 (some t120) } },
    { tape with
      wt := some 900
      cls := .index 7
      k := some 961664
      quality := .exact
      position := some 500 },
    by decide +kernel⟩

theorem witness_SamplesClassifyTheCassette_left :
    ∃ (s : State) (r : Cassette),
      s.lku.supply = .mains ∧ s.pgt.claim = none ∧ s.tc.state ∈ [.play, .record, .searchFwd]
      ∧ s.tau.record = some r ∧ s.tau.supplyRev.measuring = true ∧ s.tau.supplyRev.pulses ≠ 0
      ∧ s.tau.takeUpFresh = true ∧ r.wt = some 900 ∧ r.cls = .index 7
      ∧ s.tau.entry 7 = some t120 ∧ r.quality ≠ .none ∧ s.tau.outliers = 3 :=
  ⟨{ playing with
      tau := { calm.tau with
        record :=
          some
            { tape with
              wt := some 900
              cls := .index 7
              k := some 961664
              quality := .estimated
              position := some 500 }
        takeUpFresh := true
        outliers := 3
        supplyRev := ⟨true, 1, 1799, 0⟩
        table := calm.tau.table.set 7 (some t120) } },
    { tape with
      wt := some 900
      cls := .index 7
      k := some 961664
      quality := .estimated
      position := some 500 },
    by decide +kernel⟩

theorem witness_WindEstimateMovesThePosition_zone :
    ∃ (s : State) (r : Cassette),
      s.lku.supply = .mains ∧ s.tc.state = .windFwd ∧ s.tau.record = some r
      ∧ s.tau.supplyRev = ⟨true, 1, 0, 0⟩ ∧ r.cls = .index 7 ∧ s.tau.entry 7 = some t120
      ∧ r.k = some 961664 ∧ s.tau.tt = some 900 ∧ s.tau.zone = .none :=
  ⟨{ deckAt .windFwd (some ⟨.windFwd, .windFwd⟩) (.code .c1) with
      tau := { calm.tau with
        record :=
          some
            { tape with
              cls := .index 7
              k := some 961664
              quality := .exact
              position := some 3600 }
        supplyRev := ⟨true, 1, 0, 0⟩
        tt := some 900
        zone := .none
        endNear := false
        table := calm.tau.table.set 7 (some t120) } },
    { tape with cls := .index 7, k := some 961664, quality := .exact, position := some 3600 },
    by decide +kernel⟩

theorem witness_WindEstimateMovesThePosition_outside :
    ∃ (s : State) (r : Cassette),
      s.lku.supply = .mains ∧ s.tc.state = .windRev ∧ s.tau.record = some r
      ∧ s.tau.supplyRev = ⟨true, 1, 0, 0⟩ ∧ r.cls = .index 7 ∧ s.tau.entry 7 = some t120
      ∧ r.k = some 961664 ∧ s.tau.tt = some 500 ∧ s.tau.zone = .inside :=
  ⟨{ deckAt .windRev (some ⟨.windRev, .windRev⟩) (.code .c1) with
      tau := { calm.tau with
        record :=
          some
            { tape with
              cls := .index 7
              k := some 961664
              quality := .exact
              position := some 3600 }
        supplyRev := ⟨true, 1, 0, 0⟩
        tt := some 500
        zone := .inside
        endNear := false
        table := calm.tau.table.set 7 (some t120) } },
    { tape with cls := .index 7, k := some 961664, quality := .exact, position := some 3600 },
    by decide +kernel⟩

theorem witness_WindEstimateMovesThePosition_near :
    ∃ (s : State) (r : Cassette),
      s.lku.supply = .mains ∧ s.tc.state = .windFwd ∧ s.tau.record = some r
      ∧ s.tau.supplyRev = ⟨true, 1, 0, 0⟩ ∧ r.cls = .index 7 ∧ s.tau.entry 7 = some t120
      ∧ r.k = some 961664 ∧ s.tau.tt = some 900 ∧ s.tau.zone = .inside :=
  ⟨{ deckAt .windFwd (some ⟨.windFwd, .windFwd⟩) (.code .c1) with
      tau := { calm.tau with
        record :=
          some
            { tape with
              cls := .index 7
              k := some 961664
              quality := .exact
              position := some 3600 }
        supplyRev := ⟨true, 1, 0, 0⟩
        tt := some 900
        zone := .inside
        endNear := false
        table := calm.tau.table.set 7 (some t120) } },
    { tape with cls := .index 7, k := some 961664, quality := .exact, position := some 3600 },
    by decide +kernel⟩

theorem witness_WindEstimateMovesThePosition_same :
    ∃ (s : State) (r : Cassette),
      s.lku.supply = .mains ∧ s.tc.state = .windRev ∧ s.tau.record = some r
      ∧ s.tau.supplyRev = ⟨true, 1, 0, 0⟩ ∧ r.cls = .index 7 ∧ s.tau.entry 7 = some t120
      ∧ r.k = some 961664 ∧ s.tau.tt = some 500 ∧ s.tau.zone = .outside :=
  ⟨{ deckAt .windRev (some ⟨.windRev, .windRev⟩) (.code .c1) with
      tau := { calm.tau with
        record :=
          some
            { tape with
              cls := .index 7
              k := some 961664
              quality := .exact
              position := some 3600 }
        supplyRev := ⟨true, 1, 0, 0⟩
        tt := some 500
        zone := .outside
        endNear := false
        table := calm.tau.table.set 7 (some t120) } },
    { tape with cls := .index 7, k := some 961664, quality := .exact, position := some 3600 },
    by decide +kernel⟩

theorem witness_WindEstimateMovesThePosition_no_tt :
    ∃ (s : State) (r : Cassette),
      s.lku.supply = .mains ∧ s.tc.state = .windFwd ∧ s.tau.record = some r
      ∧ s.tau.supplyRev = ⟨true, 1, 0, 0⟩ ∧ s.tau.classEntry.isSome = true ∧ s.tau.tt = none :=
  ⟨{ deckAt .windFwd (some ⟨.windFwd, .windFwd⟩) (.code .c1) with
      tau := { calm.tau with
        record :=
          some
            { tape with
              cls := .index 7
              k := some 961664
              quality := .exact
              position := some 3600 }
        supplyRev := ⟨true, 1, 0, 0⟩
        tt := none
        zone := .inside
        endNear := false
        table := calm.tau.table.set 7 (some t120) } },
    { tape with cls := .index 7, k := some 961664, quality := .exact, position := some 3600 },
    by decide +kernel⟩

theorem witness_WindEstimateMovesThePosition_no_class :
    ∃ (s : State) (r : Cassette),
      s.lku.supply = .mains ∧ s.tc.state = .windRev ∧ s.tau.record = some r
      ∧ s.tau.classEntry = none :=
  ⟨{ deckAt .windRev (some ⟨.windRev, .windRev⟩) (.code .c1) with
      tau := { calm.tau with
        record := some { tape with position := some 3600, quality := .estimated }
        supplyRev := ⟨true, 1, 0, 0⟩
        tt := some 500
        zone := .none
        endNear := false
        table := calm.tau.table.set 7 (some t120) } },
    { tape with position := some 3600, quality := .estimated },
    by decide +kernel⟩

theorem witness_WindEstimateMovesThePosition_no_position :
    ∃ (s : State) (r : Cassette),
      s.lku.supply = .mains ∧ s.tc.state = .windRev ∧ s.tau.record = some r
      ∧ s.tau.classEntry = none :=
  ⟨{ deckAt .windRev (some ⟨.windRev, .windRev⟩) (.code .c1) with
      tau := { calm.tau with
        record := some tape
        supplyRev := ⟨true, 1, 0, 0⟩
        tt := some 500
        zone := .none
        endNear := false
        table := calm.tau.table.set 7 (some t120) } },
    tape,
    by decide +kernel⟩

theorem witness_RecordingOpensWithItsEntry_unindexed :
    ∃ (s : State) (r : Cassette),
      s.lku.supply = .mains ∧ s.pgt.claim = none ∧ s.tc.state = .engaging ∧ s.tc.lockWait = true
      ∧ s.tc.sensors.cam = .code .c3 ∧ s.tc.sensors.eot = false ∧ s.tc.openRec = false
      ∧ s.tc.gate = false ∧ s.svu.drum.lock = .phaseLock ∧ s.svu.cap.lock = .unlocked
      ∧ s.svu.cap.inBand = 15 ∧ s.svu.cap.lastPulse = some 0 ∧ s.svu.capTarget = .run false 1 1
      ∧ s.mdu.capReverse = false ∧ s.tau.record = some r ∧ s.tau.inProgress = none
      ∧ s.tau.fgStep = 0 ∧ s.field = .f60 ∧ r.position = none :=
  ⟨{ deckAt .engaging (some ⟨.record, .record⟩) (.code .c3) with
      tc := { (deckAt .engaging (some ⟨.record, .record⟩) (.code .c3)).tc with
        lockWait := true
        lockTimer := some 5000000
        recSpeed := .lp }
      tau := { calm.tau with record := some tape, directory := [], details := none }
      tnu := calm.tnu
      pgt := { calm.pgt with engaged := false }
      svu := { calm.svu with
        drumTarget := .run .video
        capTarget := .run false 1 1
        drum := { calm.svu.drum with lock := .phaseLock }
        cap := { calm.svu.cap with inBand := 15, lastPulse := some 0 } } },
    tape,
    by decide +kernel⟩

theorem witness_RecordingOpensWithItsEntry_manual :
    ∃ (s : State) (r : Cassette),
      s.lku.supply = .mains ∧ s.pgt.claim = none ∧ s.tc.state = .engaging ∧ s.tc.lockWait = true
      ∧ s.tc.sensors.cam = .code .c3 ∧ s.tc.sensors.eot = false ∧ s.tc.openRec = false
      ∧ s.tc.gate = false ∧ s.svu.drum.lock = .phaseLock ∧ s.svu.cap.lock = .unlocked
      ∧ s.svu.cap.inBand = 15 ∧ s.svu.cap.lastPulse = some 0 ∧ s.svu.capTarget = .run false 1 1
      ∧ s.mdu.capReverse = false ∧ s.tau.record = some r ∧ s.tau.inProgress = none
      ∧ s.tau.fgStep = 0 ∧ s.field = .f60 ∧ r.position = some 200 ∧ s.pgt.engaged = false ∧ s.tau.directory.length = 3 :=
  ⟨{ deckAt .engaging (some ⟨.record, .record⟩) (.code .c3) with
      tc := { (deckAt .engaging (some ⟨.record, .record⟩) (.code .c3)).tc with
        lockWait := true
        lockTimer := some 5000000
        recSpeed := .lp }
      tau := { calm.tau with
        record := some { tape with position := some 200, quality := .exact }
        directory :=
          [⟨10, some 150, none, .manual, none, none, none⟩, ⟨170, some 400, none, .found, none, none, none⟩, ⟨500, none, none, .found, none, none, none⟩]
        details := none }
      tnu := tuned.tnu
      pgt := { calm.pgt with engaged := false }
      svu := { calm.svu with
        drumTarget := .run .video
        capTarget := .run false 1 1
        drum := { calm.svu.drum with lock := .phaseLock }
        cap := { calm.svu.cap with inBand := 15, lastPulse := some 0 } } },
    { tape with position := some 200, quality := .exact },
    by decide +kernel⟩

theorem witness_RecordingOpensWithItsEntry_timer :
    ∃ (s : State) (r : Cassette),
      s.lku.supply = .mains ∧ s.pgt.claim = none ∧ s.tc.state = .engaging ∧ s.tc.lockWait = true
      ∧ s.tc.sensors.cam = .code .c3 ∧ s.tc.sensors.eot = false ∧ s.tc.openRec = false
      ∧ s.tc.gate = false ∧ s.svu.drum.lock = .phaseLock ∧ s.svu.cap.lock = .unlocked
      ∧ s.svu.cap.inBand = 15 ∧ s.svu.cap.lastPulse = some 0 ∧ s.svu.capTarget = .run false 1 1
      ∧ s.mdu.capReverse = false ∧ s.tau.record = some r ∧ s.tau.inProgress = none
      ∧ s.tau.fgStep = 0 ∧ s.field = .f60 ∧ r.position = some 200 ∧ s.pgt.engaged = true ∧ s.tau.details.isSome = true :=
  ⟨{ deckAt .engaging (some ⟨.record, .record⟩) (.code .c3) with
      tc := { (deckAt .engaging (some ⟨.record, .record⟩) (.code .c3)).tc with
        lockWait := true
        lockTimer := some 5000000
        recSpeed := .lp }
      tau := { calm.tau with
        record := some { tape with position := some 200, quality := .exact }
        directory := []
        details := some ⟨some 3, some (.preset 7), some label⟩ }
      tnu := calm.tnu
      pgt := { calm.pgt with engaged := true }
      svu := { calm.svu with
        drumTarget := .run .video
        capTarget := .run false 1 1
        drum := { calm.svu.drum with lock := .phaseLock }
        cap := { calm.svu.cap with inBand := 15, lastPulse := some 0 } } },
    { tape with position := some 200, quality := .exact },
    by decide +kernel⟩

theorem witness_RecordingOpensWithItsEntry_full :
    ∃ (s : State) (r : Cassette),
      s.lku.supply = .mains ∧ s.pgt.claim = none ∧ s.tc.state = .engaging ∧ s.tc.lockWait = true
      ∧ s.tc.sensors.cam = .code .c3 ∧ s.tc.sensors.eot = false ∧ s.tc.openRec = false
      ∧ s.tc.gate = false ∧ s.svu.drum.lock = .phaseLock ∧ s.svu.cap.lock = .unlocked
      ∧ s.svu.cap.inBand = 15 ∧ s.svu.cap.lastPulse = some 0 ∧ s.svu.capTarget = .run false 1 1
      ∧ s.mdu.capReverse = false ∧ s.tau.record = some r ∧ s.tau.inProgress = none
      ∧ s.tau.fgStep = 0 ∧ s.field = .f60 ∧ r.position = some 200 ∧ s.tau.directory.length = 16
      ∧ (∀ e ∈ s.tau.directory, e.origin = .manual) :=
  ⟨{ deckAt .engaging (some ⟨.record, .record⟩) (.code .c3) with
      tc := { (deckAt .engaging (some ⟨.record, .record⟩) (.code .c3)).tc with
        lockWait := true
        lockTimer := some 5000000
        recSpeed := .lp }
      tau := { calm.tau with
        record := some { tape with position := some 200, quality := .exact }
        directory :=
          (List.range 16).map
            (fun i => ⟨1000 * i, some (1000 * i + 100), none, .manual, none, none, none⟩)
        details := none }
      tnu := calm.tnu
      pgt := { calm.pgt with engaged := false }
      svu := { calm.svu with
        drumTarget := .run .video
        capTarget := .run false 1 1
        drum := { calm.svu.drum with lock := .phaseLock }
        cap := { calm.svu.cap with inBand := 15, lastPulse := some 0 } } },
    { tape with position := some 200, quality := .exact },
    by decide +kernel⟩

theorem witness_RecordingOpensWithItsEntry_closes :
    ∃ (s : State) (due : Tick),
      s.lku.supply = .mains ∧ s.plain ∧ s.tc.state = .recordPause ∧ s.tc.pauseTimer = some due
      ∧ s.tc.openRec = true ∧ s.tau.inProgress = some 20 ∧ s.tau.position = some 77 :=
  ⟨{ deckAt .recordPause (some ⟨.recordPause, .recordPause⟩) (.code .c2) with
      tc := { (deckAt .recordPause (some ⟨.recordPause, .recordPause⟩) (.code .c2)).tc with
        openRec := true
        pauseTimer := some 9 }
      tau := { calm.tau with
        record := some { tape with position := some 77, quality := .exact }
        directory :=
          [⟨5, some 8, none, .manual, none, none, none⟩, ⟨20, none, some .ep, .manual, none, none, none⟩]
        inProgress := some 20
        warnSpeed := .ep } },
    9,
    by decide +kernel⟩

theorem witness_LabelEventsActOnTheRecord_watching_other :
    ∃ (s : State) (p : List Byte) (n : Nat) (v : Option Label) (st : LabelStatus),
      takesEvents n s ∧ hears p v st s ∧ ¬(v.isSome = true ∧ v = (s.slot n).label)
      ∧ st = .running ∧ s.tc.state = .threadedStop ∧ s.tc.sensors.cam = .code .c2
      ∧ (s.slot n).state = .watching :=
  ⟨saidOnce (none) .running
      (engagedWith ({ labelRec with state := .watching }) (some 3) (deckAt .threadedStop (some ⟨.stop, .threadedStop⟩) (.code .c2))),
    [1, 16, 0, 1, 4, 0xB1, 0, 0, 20, 15, 1],
    3,
    none,
    .running,
    by decide +kernel⟩

theorem witness_LabelEventsActOnTheRecord_watching_running :
    ∃ (s : State) (p : List Byte) (n : Nat) (v : Option Label) (st : LabelStatus),
      takesEvents n s ∧ hears p v st s ∧ v.isSome = true ∧ v = (s.slot n).label
      ∧ st = .running ∧ s.tc.state = .threadedStop ∧ s.tc.sensors.cam = .code .c2
      ∧ (s.slot n).state = .watching ∧ s.tc.openRec = false :=
  ⟨saidOnce (some label) .running
      (engagedWith ({ labelRec with state := .watching }) (some 3) (deckAt .threadedStop (some ⟨.stop, .threadedStop⟩) (.code .c2))),
    labelPacket 0 1,
    3,
    some label,
    .running,
    by decide +kernel⟩

theorem witness_LabelEventsActOnTheRecord_watching_soon :
    ∃ (s : State) (p : List Byte) (n : Nat) (v : Option Label) (st : LabelStatus),
      takesEvents n s ∧ hears p v st s ∧ v.isSome = true ∧ v = (s.slot n).label
      ∧ st = .soon ∧ s.tc.state = .threadedStop ∧ s.tc.sensors.cam = .code .c2
      ∧ (s.slot n).state = .watching ∧ s.tc.openRec = false :=
  ⟨saidOnce (some label) .soon
      (engagedWith ({ labelRec with state := .watching }) (some 3) (deckAt .threadedStop (some ⟨.stop, .threadedStop⟩) (.code .c2))),
    labelPacket 0 0,
    3,
    some label,
    .soon,
    by decide +kernel⟩

theorem witness_LabelEventsActOnTheRecord_watching_unthreaded :
    ∃ (s : State) (p : List Byte) (n : Nat) (v : Option Label) (st : LabelStatus),
      takesEvents n s ∧ hears p v st s ∧ v.isSome = true ∧ v = (s.slot n).label
      ∧ st = .brk ∧ s.tc.state = .unthreadedStop ∧ s.tc.sensors.cam = .code .c1
      ∧ (s.slot n).state = .watching ∧ s.tc.openRec = false :=
  ⟨saidOnce (some label) .brk
      (engagedWith ({ labelRec with state := .watching }) (some 3) (deckAt .unthreadedStop none (.code .c1))),
    labelPacket 0 2,
    3,
    some label,
    .brk,
    by decide +kernel⟩

theorem witness_LabelEventsActOnTheRecord_starting_clock :
    ∃ (s : State) (p : List Byte) (n : Nat) (v : Option Label) (st : LabelStatus),
      takesEvents n s ∧ hears p v st s ∧ ¬(v.isSome = true ∧ v = (s.slot n).label)
      ∧ st = .brk ∧ s.tc.state = .recordPause ∧ s.tc.sensors.cam = .code .c2
      ∧ (s.slot n).state = .starting ∧ (s.slot n).phase = .clock :=
  ⟨saidOnce (none) .brk
      (engagedWith ({ labelRec with state := .starting, phase := .clock }) (some 3) (deckAt .recordPause (some ⟨.recordPause, .recordPause⟩) (.code .c2))),
    [1, 16, 0, 1, 4, 0xB1, 0, 0, 20, 15, 2],
    3,
    none,
    .brk,
    by decide +kernel⟩

theorem witness_LabelEventsActOnTheRecord_starting_same :
    ∃ (s : State) (p : List Byte) (n : Nat) (v : Option Label) (st : LabelStatus),
      takesEvents n s ∧ hears p v st s ∧ v.isSome = true ∧ v = (s.slot n).label
      ∧ st = .brk ∧ s.tc.state = .recordPause ∧ s.tc.sensors.cam = .code .c2
      ∧ (s.slot n).state = .starting ∧ (s.slot n).phase = .hold :=
  ⟨saidOnce (some label) .brk
      (engagedWith ({ labelRec with state := .starting, phase := .hold, holdCount := some 9 }) (some 3) (deckAt .recordPause (some ⟨.recordPause, .recordPause⟩) (.code .c2))),
    labelPacket 0 2,
    3,
    some label,
    .brk,
    by decide +kernel⟩

theorem witness_LabelEventsActOnTheRecord_hold_moving :
    ∃ (s : State) (p : List Byte) (n : Nat) (v : Option Label) (st : LabelStatus),
      takesEvents n s ∧ hears p v st s ∧ v.isSome = true ∧ v = (s.slot n).label
      ∧ st = .running ∧ s.tc.state = .threading
      ∧ (s.slot n).state = .starting ∧ (s.slot n).phase = .hold :=
  ⟨saidOnce (some label) .running
      (engagedWith ({ labelRec with state := .starting, phase := .hold, holdCount := some 9, chosen := some .sp }) (some 3) (deckAt .threading (some ⟨.recordPause, .recordPause⟩) .transit)),
    labelPacket 0 1,
    3,
    some label,
    .running,
    by decide +kernel⟩

theorem witness_LabelEventsActOnTheRecord_hold_running :
    ∃ (s : State) (p : List Byte) (n : Nat) (v : Option Label) (st : LabelStatus),
      takesEvents n s ∧ hears p v st s ∧ v.isSome = true ∧ v = (s.slot n).label
      ∧ st = .running ∧ s.tc.state = .recordPause ∧ s.tc.sensors.cam = .code .c2
      ∧ (s.slot n).state = .starting ∧ (s.slot n).phase = .hold
      ∧ (s.slot n).startCount = none ∧ s.tc.openRec = false
      ∧ (s.slot n).chosen = some .sp ∧ plannedSpeed s.field .sp = .sp :=
  ⟨saidOnce (some label) .running
      (engagedWith ({ labelRec with state := .starting, phase := .hold, holdCount := some 9, chosen := some .sp }) (some 3) (deckAt .recordPause (some ⟨.recordPause, .recordPause⟩) (.code .c2))),
    labelPacket 0 1,
    3,
    some label,
    .running,
    by decide +kernel⟩

theorem witness_LabelEventsActOnTheRecord_go_held :
    ∃ (s : State) (p : List Byte) (n : Nat) (v : Option Label) (st : LabelStatus),
      takesEvents n s ∧ hears p v st s ∧ v.isSome = true ∧ v = (s.slot n).label
      ∧ st = .brk ∧ s.tc.state = .engaging
      ∧ (s.slot n).state = .starting ∧ (s.slot n).phase = .go ∧ s.tc.openRec = false
      ∧ (s.slot n).chosen = some .sp ∧ plannedSpeed s.field .sp = .sp :=
  ⟨saidOnce (some label) .brk
      (engagedWith ({ labelRec with state := .starting, phase := .go, startCount := some 1, chosen := some .sp }) (some 3) (deckAt .engaging (some ⟨.record, .record⟩) .transit)),
    labelPacket 0 2,
    3,
    some label,
    .brk,
    by decide +kernel⟩

theorem witness_LabelEventsActOnTheRecord_hold_lost :
    ∃ (s : State) (p : List Byte) (n : Nat) (v : Option Label) (st : LabelStatus),
      takesEvents n s ∧ hears p v st s ∧ ¬(v.isSome = true ∧ v = (s.slot n).label)
      ∧ st = .soon ∧ s.tc.state = .recordPause ∧ s.tc.sensors.cam = .code .c2
      ∧ (s.slot n).state = .starting ∧ (s.slot n).phase = .hold :=
  ⟨saidOnce (none) .soon
      (engagedWith ({ labelRec with state := .starting, phase := .hold, holdCount := some 1 }) (some 3) (deckAt .recordPause (some ⟨.recordPause, .recordPause⟩) (.code .c2))),
    [1, 16, 0, 1, 4, 0xB1, 0, 0, 20, 15, 0],
    3,
    none,
    .soon,
    by decide +kernel⟩

theorem witness_LabelEventsActOnTheRecord_go_lost :
    ∃ (s : State) (p : List Byte) (n : Nat) (v : Option Label) (st : LabelStatus),
      takesEvents n s ∧ hears p v st s ∧ ¬(v.isSome = true ∧ v = (s.slot n).label)
      ∧ st = .running ∧ s.tc.state = .engaging
      ∧ (s.slot n).state = .starting ∧ (s.slot n).phase = .go :=
  ⟨saidOnce (none) .running
      (engagedWith ({ labelRec with state := .starting, phase := .go, startCount := some 60 }) (some 3) (deckAt .engaging (some ⟨.record, .record⟩) .transit)),
    [1, 16, 0, 1, 4, 0xB1, 0, 0, 20, 15, 1],
    3,
    none,
    .running,
    by decide +kernel⟩

theorem witness_LabelEventsActOnTheRecord_recording_same :
    ∃ (s : State) (p : List Byte) (n : Nat) (v : Option Label) (st : LabelStatus),
      takesEvents n s ∧ hears p v st s ∧ v.isSome = true ∧ v = (s.slot n).label
      ∧ st = .soon ∧ s.tc.state = .record ∧ s.tc.sensors.cam = .code .c3
      ∧ (s.slot n).state = .recording ∧ (s.slot n).stopMode = .label :=
  ⟨saidOnce (some label) .soon
      (engagedWith ({ labelRec with state := .recording, stopMode := .label }) (some 3) (deckAt .record (some ⟨.record, .record⟩) (.code .c3))),
    labelPacket 0 0,
    3,
    some label,
    .soon,
    by decide +kernel⟩

theorem witness_LabelEventsActOnTheRecord_scheduled :
    ∃ (s : State) (p : List Byte) (n : Nat) (v : Option Label) (st : LabelStatus),
      takesEvents n s ∧ hears p v st s ∧ ¬(v.isSome = true ∧ v = (s.slot n).label)
      ∧ st = .brk ∧ s.tc.state = .record ∧ s.tc.sensors.cam = .code .c3
      ∧ (s.slot n).state = .recording ∧ (s.slot n).stopMode = .scheduled :=
  ⟨saidOnce (none) .brk
      (engagedWith ({ labelRec with state := .recording, stopMode := .scheduled }) (some 3) (deckAt .record (some ⟨.record, .record⟩) (.code .c3))),
    [1, 16, 0, 1, 4, 0xB1, 0, 0, 20, 15, 2],
    3,
    none,
    .brk,
    by decide +kernel⟩

theorem witness_LabelEventsActOnTheRecord_break :
    ∃ (s : State) (p : List Byte) (n : Nat) (v : Option Label) (st : LabelStatus),
      takesEvents n s ∧ hears p v st s ∧ v.isSome = true ∧ v = (s.slot n).label
      ∧ st = .brk ∧ s.tc.state = .record ∧ s.tc.sensors.cam = .code .c3
      ∧ (s.slot n).state = .recording ∧ (s.slot n).stopMode = .label ∧ s.tc.openRec = true
      ∧ (s.slot n).chosen = some .sp ∧ plannedSpeed s.field .sp = .sp :=
  ⟨saidOnce (some label) .brk
      (engagedWith ({ labelRec with state := .recording, stopMode := .label, chosen := some .sp }) (some 3) ({ deckAt .record (some ⟨.record, .record⟩) (.code .c3) with tc := { (deckAt .record (some ⟨.record, .record⟩) (.code .c3)).tc with openRec := true, gate := true } })),
    labelPacket 0 2,
    3,
    some label,
    .brk,
    by decide +kernel⟩

theorem witness_LabelEventsActOnTheRecord_resumed :
    ∃ (s : State) (p : List Byte) (n : Nat) (v : Option Label) (st : LabelStatus),
      takesEvents n s ∧ hears p v st s ∧ v.isSome = true ∧ v = (s.slot n).label
      ∧ st = .running ∧ s.tc.state = .recordPause ∧ s.tc.sensors.cam = .code .c2
      ∧ (s.slot n).state = .paused ∧ (s.slot n).stopMode = .label ∧ s.tc.openRec = true
      ∧ (s.slot n).chosen = some .sp ∧ plannedSpeed s.field .sp = .sp :=
  ⟨saidOnce (some label) .running
      (engagedWith ({ labelRec with state := .paused, stopMode := .label, chosen := some .sp }) (some 3) ({ deckAt .recordPause (some ⟨.recordPause, .recordPause⟩) (.code .c2) with tc := { (deckAt .recordPause (some ⟨.recordPause, .recordPause⟩) (.code .c2)).tc with openRec := true } })),
    labelPacket 0 1,
    3,
    some label,
    .running,
    by decide +kernel⟩

theorem witness_LabelEventsActOnTheRecord_over :
    ∃ (s : State) (p : List Byte) (n : Nat) (v : Option Label) (st : LabelStatus),
      takesEvents n s ∧ hears p v st s ∧ ¬(v.isSome = true ∧ v = (s.slot n).label)
      ∧ st = .soon ∧ s.tc.state = .record ∧ s.tc.sensors.cam = .code .c3
      ∧ (s.slot n).state = .recording ∧ (s.slot n).stopMode = .label
      ∧ s.tc.goal.map Goal.target ≠ some .stop ∧ (s.slot n).repeats = .once :=
  ⟨saidOnce (none) .soon
      (engagedWith ({ labelRec with state := .recording, stopMode := .label, actualStart := some 984600000 }) (some 3) ({ deckAt .record (some ⟨.record, .record⟩) (.code .c3) with tc := { (deckAt .record (some ⟨.record, .record⟩) (.code .c3)).tc with openRec := true, gate := true } })),
    [1, 16, 0, 1, 4, 0xB1, 0, 0, 20, 15, 0],
    3,
    none,
    .soon,
    by decide +kernel⟩

theorem witness_LabelEventsActOnTheRecord_over_paused :
    ∃ (s : State) (p : List Byte) (n : Nat) (v : Option Label) (st : LabelStatus),
      takesEvents n s ∧ hears p v st s ∧ ¬(v.isSome = true ∧ v = (s.slot n).label)
      ∧ st = .running ∧ s.tc.state = .recordPause ∧ s.tc.sensors.cam = .code .c2
      ∧ (s.slot n).state = .paused ∧ (s.slot n).stopMode = .label
      ∧ s.tc.goal.map Goal.target ≠ some .stop ∧ (s.slot n).repeats = .weekly :=
  ⟨saidOnce (none) .running
      (engagedWith ({ labelRec with state := .paused, stopMode := .label, repeats := .weekly }) (some 3) ({ deckAt .recordPause (some ⟨.recordPause, .recordPause⟩) (.code .c2) with tc := { (deckAt .recordPause (some ⟨.recordPause, .recordPause⟩) (.code .c2)).tc with openRec := true } })),
    [1, 16, 0, 1, 4, 0xB1, 0, 0, 20, 15, 1],
    3,
    none,
    .running,
    by decide +kernel⟩

theorem witness_LabelEventsActOnTheRecord_loss_watching :
    ∃ (s : State) (n : Nat) (due : Tick),
      takesEvents n s ∧ s.dlp.lossTimer = some due
      ∧ s.dlp.tracker = .live 1201 (some label) .running ∧ s.tc.state = .unthreadedStop ∧ s.tc.sensors.cam = .code .c1
      ∧ (s.slot n).state = .watching :=
  ⟨clockAt ⟨14, 3, 2031, 20, 0, 0⟩
      (liveLabel (some label) .running (engagedWith ({ labelRec with state := .watching }) (some 3) (deckAt .unthreadedStop none (.code .c1)))),
    3,
    9,
    by decide +kernel⟩

theorem witness_LabelEventsActOnTheRecord_loss_reached :
    ∃ (s : State) (n : Nat) (due : Tick),
      takesEvents n s ∧ s.dlp.lossTimer = some due
      ∧ s.dlp.tracker = .live 1201 (some label) .running ∧ s.tc.state = .record ∧ s.tc.sensors.cam = .code .c3
      ∧ (s.slot n).state = .recording ∧ (s.slot n).stopMode = .label ∧ (s.slot n).shiftedStop = s.clock
      ∧ s.tc.goal.map Goal.target ≠ some .stop :=
  ⟨clockAt ⟨14, 3, 2031, 21, 50, 0⟩
      (liveLabel (some label) .running (engagedWith ({ labelRec with state := .recording, stopMode := .label, actualStart := some (⟨14, 3, 2031, 20, 20, 0⟩ : DateTime).seconds }) (some 3) (deckAt .record (some ⟨.record, .record⟩) (.code .c3)))),
    3,
    9,
    by decide +kernel⟩

theorem witness_LabelEventsActOnTheRecord_loss_reached_paused :
    ∃ (s : State) (n : Nat) (due : Tick),
      takesEvents n s ∧ s.dlp.lossTimer = some due
      ∧ s.dlp.tracker = .live 1201 (some label) .running ∧ s.tc.state = .recordPause ∧ s.tc.sensors.cam = .code .c2
      ∧ (s.slot n).state = .paused ∧ (s.slot n).stopMode = .label ∧ (s.slot n).shiftedStop = s.clock
      ∧ s.tc.goal.map Goal.target ≠ some .stop :=
  ⟨clockAt ⟨14, 3, 2031, 21, 50, 0⟩
      (liveLabel (some label) .running (engagedWith ({ labelRec with state := .paused, stopMode := .label, actualStart := some (⟨14, 3, 2031, 20, 20, 0⟩ : DateTime).seconds }) (some 3) (deckAt .recordPause (some ⟨.recordPause, .recordPause⟩) (.code .c2)))),
    3,
    9,
    by decide +kernel⟩

theorem witness_LabelEventsActOnTheRecord_loss_shifts :
    ∃ (s : State) (n : Nat) (due : Tick),
      takesEvents n s ∧ s.dlp.lossTimer = some due
      ∧ s.dlp.tracker = .live 1201 (some label) .running ∧ s.tc.state = .record ∧ s.tc.sensors.cam = .code .c3
      ∧ (s.slot n).state = .recording ∧ (s.slot n).stopMode = .label ∧ (s.slot n).shiftedStop = s.clock + 1 :=
  ⟨clockAt ⟨14, 3, 2031, 21, 49, 59⟩
      (liveLabel (some label) .running (engagedWith ({ labelRec with state := .recording, stopMode := .label, actualStart := some (⟨14, 3, 2031, 20, 20, 0⟩ : DateTime).seconds }) (some 3) (deckAt .record (some ⟨.record, .record⟩) (.code .c3)))),
    3,
    9,
    by decide +kernel⟩

theorem witness_LabelEventsActOnTheRecord_loss_resumes :
    ∃ (s : State) (n : Nat) (due : Tick),
      takesEvents n s ∧ s.dlp.lossTimer = some due
      ∧ s.dlp.tracker = .live 1201 (some label) .running ∧ s.tc.state = .recordPause ∧ s.tc.sensors.cam = .code .c2
      ∧ (s.slot n).state = .paused ∧ (s.slot n).stopMode = .label ∧ (s.slot n).shiftedStop = s.clock + 1
      ∧ (s.slot n).chosen = some .sp ∧ plannedSpeed s.field .sp = .sp :=
  ⟨clockAt ⟨14, 3, 2031, 21, 49, 59⟩
      (liveLabel (some label) .running (engagedWith ({ labelRec with state := .paused, stopMode := .label, actualStart := some (⟨14, 3, 2031, 20, 20, 0⟩ : DateTime).seconds, chosen := some .sp }) (some 3) (deckAt .recordPause (some ⟨.recordPause, .recordPause⟩) (.code .c2)))),
    3,
    9,
    by decide +kernel⟩

end Sys2Proof.Tests
end

namespace Sys2Proof.Machine

/-! ### The requests that read -/

theorem reportDue_self (k : ReportKind) (s : State) : reportDue k s s = false := by
  cases k <;> simp [reportDue, sameTape, sameTuner, sameLines]

/-- R177: where nothing is asked for and nothing changes, no report is built. -/
theorem syncReports_self {s : State} (h : s.lku.wanted = []) : syncReports s s = s := by
  have hdue : dueKinds s s = [] := by simp [dueKinds, reportDue_self, h]
  rw [syncReports_eq]
  simp only [syncReports, hdue, List.foldl_nil]
  rw [← h]

/-- R173: a request whose owner refuses it. -/
theorem serveRequest_refuse {s : State} {answer : List Byte → State → Answer} {params : List Byte}
    {why : Reason} (tag : Byte) (hs : s.ready) (ha : answer params s = .refuse why) :
    serveRequest params.length answer tag params s = .next (refusedWith tag why s) := by
  obtain ⟨hsupply, hreply, -⟩ := hs
  simp [serveRequest, hsupply, hreply, ha, refuseRequest, refusedWith]

/-- R173: a request that its owner takes. -/
theorem serveRequest_take {s : State} {answer : List Byte → State → Answer} {params : List Byte}
    {t : Taken} (tag : Byte) (hs : s.ready) (ha : answer params s = .take t) :
    serveRequest params.length answer tag params s = answerRequest tag t s := by
  obtain ⟨hsupply, hreply, -⟩ := hs
  simp [serveRequest, hsupply, hreply, ha]

/-- R173: a request that changes nothing leaves its reply alone. -/
theorem answerRequest_reading {s : State} (tag : Byte) (results : State → Results)
    (h : s.lku.wanted = []) :
    answerRequest tag ⟨s, [], false, results, fun s => (s, [])⟩ s
      = .next (replied tag (results s) s) := by
  have hs : settleReporting s (s, []) = some s := by
    simp [settleReporting, syncReports_self h]
  have hj : publish (joinReply ⟨tag, none, false, results s⟩ s)
      (joinReply ⟨tag, none, false, results s⟩ s) = replied tag (results s) s := by
    rw [publish, syncReports_self (by exact h), replied]
  simp [answerRequest, hs, hj]

/-- R173: a request with one parameter byte whose owner refuses it for one test, and else answers what is
held. -/
theorem serveRequest_reading {s : State} {answer : List Byte → State → Answer} {refused : Prop}
    [Decidable refused] {why : Reason} {results : State → Results} (tag b : Byte) (hs : s.ready)
    (ha : answer [b] s = if refused then .refuse why else taken (s, []) false results) :
    serveRequest 1 answer tag [b] s =
      .next (if refused then refusedWith tag why s else replied tag (results s) s) := by
  by_cases h : refused
  · rw [if_pos h] at ha ⊢
    exact serveRequest_refuse tag hs ha
  · rw [if_neg h] at ha ⊢
    have ⟨_, _, hwanted⟩ := hs
    exact (serveRequest_take tag hs ha).trans (answerRequest_reading tag results hwanted)

theorem exec_cassetteEntryRead (tag : Byte) (p : List Byte) (s : State) :
    exec (.cassetteEntryRead tag p) s = serveRequest 1 answerCassetteRead tag p s := rfl

theorem exec_filterRead (tag : Byte) (p : List Byte) (s : State) :
    exec (.filterRead tag p) s = serveRequest 1 answerFilterRead tag p s := rfl

theorem exec_parameterRead (tag : Byte) (p : List Byte) (s : State) :
    exec (.parameterRead tag p) s = serveRequest 1 answerParameterRead tag p s := rfl

theorem exec_resetDeck (tag : Byte) (p : Pins) (s : State) :
    exec (.resetDeck tag p) s = serveReset true tag p s := rfl

theorem exec_resetAll (tag : Byte) (p : Pins) (s : State) :
    exec (.resetAll tag p) s = serveReset false tag p s := rfl

theorem exec_returnTimerExpiry (p : Pins) (s : State) :
    exec (.returnTimerExpiry p) s = execReturnTimerExpiry p s := rfl

theorem isClass_eq_decide (i : Nat) (s : State) :
    isClass i s = decide (s.tau.record.map Cassette.cls = some (.index i)) := by
  rw [isClass, beq_eq_decide]

/-- R51: CASSETTE_ENTRY_READ takes the indices 0 to 7. -/
theorem answerCassetteRead_eq (b : Byte) (s : State) :
    answerCassetteRead [b] s =
      if 7 < b.toNat then .refuse .badParameter
      else
        taken (s, []) false (fun t =>
          .cassetteEntry (t.tau.entry b.toNat) ((t.tau.entry b.toNat).map CassEntry.total)
            (decide (t.tau.record.map Cassette.cls = some (.index b.toNat)))) := by
  simp only [← isClass_eq_decide]
  rfl

theorem exec_cassetteEntryRead_ready (tag b : Byte) {s : State} (hs : s.ready) :
    exec (.cassetteEntryRead tag [b]) s = .next
      (if 7 < b.toNat then refusedWith tag .badParameter s
        else replied tag
          (.cassetteEntry (s.tau.entry b.toNat) ((s.tau.entry b.toNat).map CassEntry.total)
            (decide (s.tau.record.map Cassette.cls = some (.index b.toNat)))) s) := by
  rw [exec_cassetteEntryRead]
  exact serveRequest_reading tag b hs (answerCassetteRead_eq b s)

/-- R113: FILTER_READ takes the indices 0 to 7. -/
theorem answerFilterRead_eq (b : Byte) (s : State) :
    answerFilterRead [b] s =
      if 7 < b.toNat then .refuse .badParameter
      else taken (s, []) false (fun t => .filter (t.dlp.filter.getD b.toNat none)) := rfl

theorem exec_filterRead_ready (tag b : Byte) {s : State} (hs : s.ready) :
    exec (.filterRead tag [b]) s = .next
      (if 7 < b.toNat then refusedWith tag .badParameter s
        else replied tag (.filter (s.dlp.filter.getD b.toNat none)) s) := by
  rw [exec_filterRead]
  exact serveRequest_reading tag b hs (answerFilterRead_eq b s)

/-- 10.7.1, R184: PARAMETER_READ takes the identifiers 1 to 36. -/
theorem answerParameterRead_eq (b : Byte) (s : State) :
    answerParameterRead [b] s =
      if b.toNat = 0 ∨ 36 < b.toNat then .refuse .badParameter
      else taken (s, []) false (fun t => .parameter (t.lku.params.get b.toNat)) := by
  have hid : isParam b.toNat = true ↔ ¬(b.toNat = 0 ∨ 36 < b.toNat) := by
    simp [isParam]; omega
  simp only [answerParameterRead, byteAt, List.getD_cons_zero, hid, ite_not]

theorem exec_parameterRead_ready (tag b : Byte) {s : State} (hs : s.ready) :
    exec (.parameterRead tag [b]) s = .next
      (if b.toNat = 0 ∨ 36 < b.toNat then refusedWith tag .badParameter s
        else replied tag (.parameter (s.lku.params.get b.toNat)) s) := by
  rw [exec_parameterRead]
  exact serveRequest_reading tag b hs (answerParameterRead_eq b s)

/-! ### The starts and the resets -/

/-- R51, R113, R184: what a warm start and a RESET DECK keep. -/
def State.stored (s : State) : List (Option CassEntry) × List (Option FilterEntry) × Params :=
  (s.tau.table, s.dlp.filter, s.lku.params)

/-- R51, R113, R184: both tables without a valid entry, and every parameter at its default. -/
def freshStored : List (Option CassEntry) × List (Option FilterEntry) × Params :=
  (List.replicate 8 none, List.replicate 8 none, Params.default)

theorem stored_eq_iff {s : State} {table : List (Option CassEntry)}
    {filter : List (Option FilterEntry)} {params : Params} :
    s.stored = (table, filter, params) ↔
      s.tau.table = table ∧ s.dlp.filter = filter ∧ s.lku.params = params := by
  simp [State.stored]

theorem stored_of_kept {a b : State} (h : a.kept = b.kept) : a.stored = b.stored :=
  congrArg (fun k : KeptPart => (k.table, k.filter, k.params)) h

theorem stored_startTransmission (s : State) : (startTransmission s).stored = s.stored := by
  unfold startTransmission
  split
  · rfl
  · split <;> rfl

theorem stored_publish (a b : State) : (publish a b).stored = b.stored :=
  stored_startTransmission _

theorem stored_firstSample (v : Nat) (s : State) : (firstSample v s).stored = s.stored := by
  unfold firstSample
  split <;> rfl

theorem stored_startUpProcedure (s : State) : (startUpProcedure s).1.stored = s.stored :=
  stored_of_kept (startUpProcedure_kept s)

/-- No hand-over of a start or a reset touches what is stored. -/
theorem completeStart_stored {h : Handed} {t : State} (e : completeStart h = .next t) :
    t.stored = h.1.stored := by
  unfold completeStart at e
  split at e
  · cases e
  · next u hu =>
      cases e
      have hus : u.stored = h.1.stored :=
        runTasks_keeps _ State.stored (fun x s => stored_of_kept (perform_kept x s))
          (fun _ _ => rfl) _ _ _ _ hu
      exact (stored_publish _ _).trans hus

theorem resetDeckNow_stored (p : Pins) (s : State) : (resetDeckNow p s).1.stored = s.stored :=
  calc (resetDeckNow p s).1.stored
    _ = (firstSample p.supply.toNat (deckValues p (resetDeckTimer s))).stored :=
        stored_startUpProcedure _
    _ = (resetDeckTimer s).stored := stored_firstSample _ _
    _ = s.stored := stored_of_kept (resetDeckTimer_kept s)

theorem resetAllNow_stored (p : Pins) (s : State) : (resetAllNow p s).1.stored = freshStored :=
  (stored_startUpProcedure _).trans (stored_firstSample _ _)

theorem coldStart_stored (p : Pins) (s : State) : (coldStart p s).1.stored = freshStored :=
  (stored_startUpProcedure _).trans (stored_firstSample _ _)

theorem warmStart_stored (p : Pins) (s : State) : (warmStart p s).1.stored = s.stored :=
  calc (warmStart p s).1.stored
    _ = (startUpProcedure (firstSample p.supply.toNat (warmValues p s))).1.stored :=
        stored_of_kept (warmTune_kept _)
    _ = (firstSample p.supply.toNat (warmValues p s)).stored := stored_startUpProcedure _
    _ = s.stored := stored_firstSample _ _

/-- R184: a RESET DECK, taken or not, keeps what is stored. -/
theorem exec_resetDeck_stored {tag : Byte} {pins : Pins} {s t : State}
    (e : exec (.resetDeck tag pins) s = .next t) : t.stored = s.stored := by
  rw [exec_resetDeck, serveReset] at e
  split at e
  · cases e; rfl
  · split at e
    · cases e; exact stored_publish _ _
    · exact (completeStart_stored e).trans (resetDeckNow_stored pins s)

/-- R184: a RESET ALL that is taken leaves the values of a cold start. -/
theorem exec_resetAll_stored {tag : Byte} {pins : Pins} {s t : State} (hs : s.ready)
    (e : exec (.resetAll tag pins) s = .next t) : t.stored = freshStored := by
  obtain ⟨hsupply, hreply, -⟩ := hs
  simp only [exec_resetAll, serveReset, hsupply, hreply, ne_eq, not_true_eq_false, if_false,
    Bool.false_eq_true] at e
  exact (completeStart_stored e).trans (resetAllNow_stored pins s)

/-- R192: the backup-good input chooses between the values kept and those of a cold start. -/
theorem exec_returnTimerExpiry_stored {pins : Pins} {s t : State}
    (hr : s.lku.supply = .returning) (ht : s.lku.returnTimer.isSome = true)
    (e : exec (.returnTimerExpiry pins) s = .next t) :
    t.stored = if pins.backupGood then s.stored else freshStored := by
  obtain ⟨due, hdue⟩ := Option.isSome_iff_exists.mp ht
  rw [exec_returnTimerExpiry, execReturnTimerExpiry, if_pos ⟨hr, ht⟩] at e
  rw [completeStart_stored e]
  simp only [returnExpires, hr, hdue]
  split
  · exact warmStart_stored pins _
  · exact coldStart_stored pins _

/-- Settles O40: the reading requests answer what is held, and each start and reset is followed through
its values, its start-up procedure and its hand-overs, none of which touches what is stored. -/
theorem storedTablesReadAndKept : Obligations.StoredTablesReadAndKept := by
  unfold Obligations.StoredTablesReadAndKept
  refine ⟨fun tag b s hs => ⟨exec_cassetteEntryRead_ready tag b hs, exec_filterRead_ready tag b hs,
    exec_parameterRead_ready tag b hs⟩, fun tag pins s t => ⟨?deck, ?all, ?start⟩⟩
  case deck => exact fun e => stored_eq_iff.mp (exec_resetDeck_stored e)
  case all => exact fun hs e => stored_eq_iff.mp (exec_resetAll_stored hs e)
  case start =>
    intro hr ht e
    have hstored := exec_returnTimerExpiry_stored hr ht e
    exact ⟨fun hgood => stored_eq_iff.mp (by rw [hstored, if_pos hgood]; rfl),
      fun hbad => stored_eq_iff.mp (by rw [hstored, hbad]; rfl)⟩

end Sys2Proof.Machine

namespace Sys2Proof.Machine

/-! ### What the entry to a transport state leaves alone -/

/-- What entering a transport state other than RECORD leaves alone of the tape, the tuner and the data
lines: the cassette record, the FG step count, TNU and DLP. -/
def State.recordAndTuning (s : State) : Option Cassette × Int × Tnu × Dlp :=
  (s.tau.record, s.tau.fgStep, s.tnu, s.dlp)

@[simp] theorem stage_recordAndTuning (c : Channel) (d : Drive) (s : State) :
    (stage c d s).recordAndTuning = s.recordAndTuning := by
  unfold stage; dsimp only
  split <;> rfl

@[simp] theorem restageWind_recordAndTuning (s : State) :
    (restageWind s).recordAndTuning = s.recordAndTuning := by
  unfold restageWind
  split
  · exact stage_recordAndTuning _ _ s
  · rfl

@[simp] theorem refreshZone_recordAndTuning (s : State) :
    (refreshZone s).recordAndTuning = s.recordAndTuning := by
  unfold refreshZone
  split
  · rfl
  · exact restageWind_recordAndTuning _

@[simp] theorem refreshEndWarning_recordAndTuning (s : State) :
    (refreshEndWarning s).recordAndTuning = s.recordAndTuning := by
  unfold refreshEndWarning; dsimp only
  split <;> rfl

@[simp] theorem refreshTape_recordAndTuning (s : State) :
    (refreshTape s).recordAndTuning = s.recordAndTuning := by
  simp [refreshTape]

@[simp] theorem endSeek_recordAndTuning (r : SeekState) (s : State) :
    (endSeek r s).recordAndTuning = s.recordAndTuning := by
  unfold endSeek
  split <;> rfl

@[simp] theorem setWarnSpeed_recordAndTuning (v : Speed) (s : State) :
    (setWarnSpeed v s).recordAndTuning = s.recordAndTuning :=
  refreshTape_recordAndTuning _

@[simp] theorem demandDrum_recordAndTuning (t : DrumTarget) (s : State) :
    (demandDrum t s).recordAndTuning = s.recordAndTuning := by
  cases t with
  | off => exact stage_recordAndTuning _ _ _
  | run r => rfl

@[simp] theorem demandCap_recordAndTuning (t : CapTarget) (s : State) :
    (demandCap t s).recordAndTuning = s.recordAndTuning := by
  cases t with
  | off => exact stage_recordAndTuning _ _ _
  | hold => rfl
  | run reverse k m => rfl

@[simp] theorem setGoal_recordAndTuning (g : Goal) (s : State) :
    (setGoal g s).recordAndTuning = s.recordAndTuning := by
  unfold setGoal; dsimp only
  split
  · exact demandDrum_recordAndTuning _ _
  · exact demandDrum_recordAndTuning _ _
  · exact demandDrum_recordAndTuning _ _
  · rfl

@[simp] theorem giveHeldSpeed_recordAndTuning (s : State) :
    (giveHeldSpeed s).recordAndTuning = s.recordAndTuning := by
  unfold giveHeldSpeed
  split
  · rfl
  · split <;> rfl

theorem Tau.closeEntry_record (t : Tau) : t.closeEntry.record = t.record := by
  unfold Tau.closeEntry
  split <;> rfl

theorem Tau.closeEntry_fgStep (t : Tau) : t.closeEntry.fgStep = t.fgStep := by
  unfold Tau.closeEntry
  split <;> rfl

@[simp] theorem closeRecording_recordAndTuning (s : State) :
    (closeRecording s).recordAndTuning = s.recordAndTuning := by
  unfold closeRecording
  split
  · rw [giveHeldSpeed_recordAndTuning, setWarnSpeed_recordAndTuning]
    simp [State.recordAndTuning, Tau.closeEntry_record, Tau.closeEntry_fgStep]
  · rfl

/-- A reading that each part of leaving a state keeps is kept by the whole. -/
theorem leaveState_keeps {β : Type} (read : State → β) (hgate : ∀ x, read (gateOff x) = read x)
    (hclose : ∀ x, read (closeRecording x) = read x) (hplay : ∀ x, read (leavePlay x) = read x)
    (hwindow : ∀ x, read (clearWindow x) = read x)
    (hrevs : ∀ x : State, read { x with tau := x.tau.stopRevs } = read x) (old new : TState)
    (s : State) : read (leaveState old new s) = read s := by
  unfold leaveState; dsimp only
  simp only [apply_ite read, hgate, hclose, hplay, hwindow, hrevs, ite_self]

@[simp] theorem leaveState_recordAndTuning (old new : TState) (s : State) :
    (leaveState old new s).recordAndTuning = s.recordAndTuning :=
  leaveState_keeps State.recordAndTuning (fun _ => rfl) closeRecording_recordAndTuning
    (fun _ => rfl) (fun _ => rfl) (fun _ => rfl) old new s

@[simp] theorem demandState_recordAndTuning (old new : TState) (s : State) :
    (demandState old new s).recordAndTuning = s.recordAndTuning := by
  simp [demandState]

/-- R77: the entry to a state touches the seek alone of the tape's state. -/
theorem seekEnters_eq (t : TState) (s : State) :
    ∃ k, seekEnters t s = { s with tau := { s.tau with seek := k } } := by
  unfold seekEnters; dsimp only
  generalize (if s.tau.seek.reverse then TState.searchRev else TState.searchFwd) = search
  split
  · exact ⟨_, rfl⟩
  · exact ⟨s.tau.seek, rfl⟩

@[simp] theorem seekEnters_recordAndTuning (t : TState) (s : State) :
    (seekEnters t s).recordAndTuning = s.recordAndTuning := by
  obtain ⟨k, h⟩ := seekEnters_eq t s
  rw [h]
  rfl

@[simp] theorem seekEnters_mdu (t : TState) (s : State) : (seekEnters t s).mdu = s.mdu := by
  obtain ⟨k, h⟩ := seekEnters_eq t s
  rw [h]

@[simp] theorem beginState_recordAndTuning (new : TState) (s : State) :
    (beginState new s).recordAndTuning = s.recordAndTuning := by
  unfold beginState; dsimp only
  rw [seekEnters_recordAndTuning]
  (repeat' split) <;> rfl

/-- R3: the entry to a state other than RECORD, part by part. -/
theorem enterRaw_fst {new : TState} (h : new ≠ .record) (s : State) :
    (enterRaw new s).1 = beginState new (demandState s.tc.state new
      (setState new (leaveState s.tc.state new (announce new s)))) := by
  simp [enterRaw, h]

theorem enterRaw_snd {new : TState} (h : new ≠ .record) (s : State) :
    (enterRaw new s).2 = [.pgtTransport new none, .tcEnds] := by
  simp [enterRaw, h]

theorem enterRaw_recordAndTuning {new : TState} (h : new ≠ .record) (s : State) :
    (enterRaw new s).1.recordAndTuning = s.recordAndTuning := by
  have hset : ∀ x : State, (setState new x).recordAndTuning = x.recordAndTuning := fun _ => rfl
  have hannounce : (announce new s).recordAndTuning = s.recordAndTuning := rfl
  simp [enterRaw_fst h, hset, hannounce]

/-! ### What the entry to a transport state sets -/

/-- The target with its destination, and the settled sensors: what TC's entry to a state leaves alone. -/
def State.goalAndSensors (s : State) : Option Goal × Sensors := (s.tc.goal, s.tc.sensors)

theorem goalAndSensors_of_tc {a b : State} (h : a.tc = b.tc) : a.goalAndSensors = b.goalAndSensors := by
  simp [State.goalAndSensors, h]

@[simp] theorem closeRecording_goalAndSensors (s : State) :
    (closeRecording s).goalAndSensors = s.goalAndSensors := by
  by_cases h : s.tc.openRec = true
  · simp [State.goalAndSensors, closeRecording_tc s h]
  · simp [closeRecording, h]

@[simp] theorem leaveState_goalAndSensors (old new : TState) (s : State) :
    (leaveState old new s).goalAndSensors = s.goalAndSensors :=
  leaveState_keeps State.goalAndSensors (fun _ => rfl) closeRecording_goalAndSensors
    (fun _ => rfl) (fun _ => rfl) (fun _ => rfl) old new s

theorem enterRaw_tc {new : TState} (h : new ≠ .record) (s : State) :
    (enterRaw new s).1.tc = (setState new (leaveState s.tc.state new (announce new s))).tc := by
  rw [enterRaw_fst h, beginState_tc, demandState_tc]

theorem enterRaw_goalAndSensors {new : TState} (h : new ≠ .record) (s : State) :
    (enterRaw new s).1.goalAndSensors = s.goalAndSensors :=
  (goalAndSensors_of_tc (enterRaw_tc h s)).trans (leaveState_goalAndSensors _ _ _)

theorem enterRaw_state {new : TState} (h : new ≠ .record) (s : State) :
    (enterRaw new s).1.tc.state = new := by
  rw [enterRaw_tc h]
  rfl

/-- R29: the request for the reel channel stands as it was made. -/
theorem stage_reel_staged (d : Drive) (s : State) : (stage .reel d s).mdu.reel.staged = d := by
  unfold stage; dsimp only
  split <;> rfl

theorem stage_loading_reel (d : Drive) (s : State) : (stage .loading d s).mdu.reel = s.mdu.reel := by
  unfold stage; dsimp only
  split <;> rfl

theorem beginState_mdu (new : TState) (s : State) : (beginState new s).mdu = s.mdu := by
  unfold beginState; dsimp only
  rw [seekEnters_mdu]
  (repeat' split) <;> rfl

/-- R3: the reel channel as the entry to a stable state demands it. -/
theorem enterRaw_reel_staged {new : TState} (h : new ≠ .record) (ht : new.transient = false)
    (s : State) :
    (enterRaw new s).1.mdu.reel.staged
      = reelDemand new (setState new (leaveState s.tc.state new (announce new s))) := by
  simp [enterRaw_fst h, beginState_mdu, demandState, stage_loading_reel, stage_reel_staged, ht]

/-! ### What stands beside the deck -/

/-- What `onlyDeck` says is as before: the part of the state that no hand-over touches, without the
packets to send, and PGT, TNU and DLP. -/
def State.besideDeck (s : State) : KeptPart × Pgt × Tnu × Dlp :=
  ({ s.kept with queue := [], tx := none }, s.pgt, s.tnu, s.dlp)

theorem onlyDeck_iff (a b : State) : onlyDeck a b ↔ b.besideDeck = a.besideDeck := by
  constructor
  · intro h
    rw [h]
    rfl
  · intro h
    obtain ⟨_, _, _, ⟨⟩, ⟨⟩, ⟨⟩, _, _, _, ⟨⟩, _, _, _⟩ := a
    obtain ⟨_, _, _, ⟨⟩, ⟨⟩, ⟨⟩, _, _, _, ⟨⟩, _, _, _⟩ := b
    simp only [State.besideDeck, State.kept, Prod.mk.injEq, KeptPart.mk.injEq] at h
    simp_all [onlyDeck]

theorem syncReports_recordAndTuning (a b : State) :
    (syncReports a b).recordAndTuning = b.recordAndTuning := rfl

theorem syncReports_besideDeck (a b : State) : (syncReports a b).besideDeck = b.besideDeck := rfl

theorem startTransmission_cases (s : State) :
    startTransmission s = s ∨
      ∃ p rest, startTransmission s = { s with lku := { s.lku with tx := some p, queue := rest } } := by
  unfold startTransmission
  split
  · exact .inl rfl
  · split
    · exact .inr ⟨_, _, rfl⟩
    · exact .inl rfl

theorem startTransmission_besideDeck (s : State) :
    (startTransmission s).besideDeck = s.besideDeck := by
  obtain h | ⟨p, rest, h⟩ := startTransmission_cases s
  · rw [h]
  · rw [h]
    rfl

theorem besideDeck_of_frames {a b : State} (hkept : b.kept = a.kept) (hpgt : b.pgt = a.pgt)
    (hrest : b.recordAndTuning = a.recordAndTuning) : b.besideDeck = a.besideDeck := by
  simp only [State.recordAndTuning, Prod.mk.injEq] at hrest
  obtain ⟨-, -, htnu, hdlp⟩ := hrest
  simp [State.besideDeck, hkept, hpgt, htnu, hdlp]

/-! ### BOT seen in WIND_REV -/

theorem Tau.follow_record (t : Tau) : t.follow.record = t.record := by
  unfold Tau.follow
  split <;> rfl

theorem Tau.follow_fgStep (t : Tau) : t.follow.fgStep = t.fgStep := by
  unfold Tau.follow
  split <;> rfl

/-- 3.1: a record with the position and its quality at new values. -/
def Cassette.fixedAt (p : Nat) (q : PosQuality) (r : Cassette) : Cassette :=
  { r with position := some p, quality := q }

/-- 3.1: the position and its quality are set together, and nothing else of the record. -/
theorem setPosition_recordAndTuning (p : Nat) (q : PosQuality) (s : State) :
    (setPosition p q s).recordAndTuning
      = (s.tau.record.map (Cassette.fixedAt p q), s.tau.fgStep,
          s.tnu, s.dlp) := by
  rw [setPosition, refreshTape_recordAndTuning]
  simp [State.recordAndTuning, Tau.follow_record, Tau.follow_fgStep, onRecord]
  rfl

/-- R62: the position is 0, EXACT, whether or not the class is known; the FG step count is 0. -/
theorem botFix_recordAndTuning (s : State) :
    (botFix s).recordAndTuning
      = (s.tau.record.map (Cassette.fixedAt 0 .exact), 0,
          s.tnu, s.dlp) :=
  setPosition_recordAndTuning 0 .exact _

/-- R17, R62, R79: the state in which BOT has been seen: the reel braked, the position fixed, a seek over. -/
def botSeen (s : State) : State := endSeek .notFound (botFix (stage .reel ⟨.brake, 0⟩ s))

theorem seeEnds_of_bot {s : State} (hst : s.tc.state = .windRev) (hbot : s.tc.sensors.bot = true) :
    seeEnds s = (botSeen s, [.tcGoal .stop .bot]) := by
  simp [seeEnds, seeBot, botSeen, hst, hbot]

/-- R17, R18: where the tape does not move toward an end, none is seen. -/
theorem seeEnds_of_standing {s : State} (hdrive : s.tc.state.isDrive = false)
    (hwind : s.tc.state.isWind = false) : seeEnds s = (s, []) := by
  cases hst : s.tc.state <;> simp_all [seeEnds, TState.isDrive, TState.isWind]

theorem botSeen_tc (s : State) : (botSeen s).tc = s.tc := by
  simp [botSeen]

theorem botSeen_recordAndTuning (s : State) :
    (botSeen s).recordAndTuning
      = (s.tau.record.map (Cassette.fixedAt 0 .exact), 0,
          s.tnu, s.dlp) := by
  have h := stage_recordAndTuning .reel ⟨.brake, 0⟩ s
  simp only [State.recordAndTuning, Prod.mk.injEq] at h
  obtain ⟨hrecord, -, htnu, hdlp⟩ := h
  rw [botSeen, endSeek_recordAndTuning, botFix_recordAndTuning, hrecord, htnu, hdlp]

theorem botSeen_besideDeck (s : State) : (botSeen s).besideDeck = s.besideDeck := by
  have h := botSeen_recordAndTuning s
  simp only [State.recordAndTuning, Prod.mk.injEq] at h
  obtain ⟨-, -, htnu, hdlp⟩ := h
  have hkept : (botSeen s).kept = s.kept := by simp [botSeen]
  have hpgt : (botSeen s).pgt = s.pgt := by simp [botSeen]
  rw [State.besideDeck, hkept, hpgt, htnu, hdlp, State.besideDeck]

theorem setGoal_tc (g : Goal) (s : State) :
    (setGoal g s).tc = { s.tc with
      goal := some g, heldSpeed := if g.target = .record then s.tc.heldSpeed else none } := by
  unfold setGoal; dsimp only
  split <;> simp

/-- R17: the state in which the transport has taken the target STOP and stands in UNTHREADED_STOP. -/
def stoppedAtC1 (s : State) : State :=
  (enterRaw .unthreadedStop (endSeek .cancelled (setGoal ⟨.stop, .unthreadedStop⟩ s))).1

/-- R4, R5: from WIND_REV the target STOP leads to UNTHREADED_STOP at once, without a cam move. -/
theorem ownGoal_stop_of_windRev {s : State} (hst : s.tc.state = .windRev)
    (hwait : s.tc.lockWait = false) :
    ownGoal .stop .bot s
      = (stoppedAtC1 s, [.pgtTransport .unthreadedStop none, .tcEnds, .pgtOwnTarget .bot]) := by
  simp [ownGoal, actOnGoal, planFrom, goTo, enter, destOf, setGoal_tc, hst, hwait, stoppedAtC1,
    TState.threaded, TState.level?, TState.held, enterRaw_snd]

theorem stoppedAtC1_state (s : State) : (stoppedAtC1 s).tc.state = .unthreadedStop := by
  rw [stoppedAtC1, enterRaw_state (by decide)]

theorem stoppedAtC1_goalAndSensors (s : State) :
    (stoppedAtC1 s).goalAndSensors = (some ⟨.stop, .unthreadedStop⟩, s.tc.sensors) := by
  rw [stoppedAtC1, enterRaw_goalAndSensors (by decide)]
  simp [State.goalAndSensors, setGoal_tc]

theorem stoppedAtC1_reel_staged (s : State) : (stoppedAtC1 s).mdu.reel.staged = ⟨.brake, 0⟩ := by
  rw [stoppedAtC1, enterRaw_reel_staged (by decide) (by decide)]
  rfl

theorem stoppedAtC1_recordAndTuning (s : State) :
    (stoppedAtC1 s).recordAndTuning = s.recordAndTuning := by
  simp [stoppedAtC1, enterRaw_recordAndTuning]

theorem stoppedAtC1_pgt (s : State) : (stoppedAtC1 s).pgt = s.pgt := by
  simp [stoppedAtC1]

theorem stoppedAtC1_besideDeck (s : State) : (stoppedAtC1 s).besideDeck = s.besideDeck :=
  besideDeck_of_frames (by simp [stoppedAtC1]) (stoppedAtC1_pgt s) (stoppedAtC1_recordAndTuning s)

/-! ### The agenda -/

theorem driver_of_no_claim {s : State} (h : s.pgt.claim = none) : s.driver = none := by
  simp [State.driver, State.holder, h]

theorem transportChanged_of_no_claim {s : State} (h : s.pgt.claim = none) (new : TState)
    (opened : Option Bool) : transportChanged new opened s = (s, []) := by
  simp [transportChanged, driver_of_no_claim h]

theorem ownTargetSet_of_no_claim {s : State} (h : s.pgt.claim = none) (cause : OwnCause) :
    ownTargetSet cause s = (s, []) := by
  simp [ownTargetSet, driver_of_no_claim h]

/-- A list of hand-overs each of which does nothing is carried out without effect. -/
theorem runTasks_silent (fuel : Nat) (ts : List Task) (s : State) (hw : s.lku.wanted = [])
    (h : ∀ t ∈ ts, perform t s = (s, [])) (hf : ts.length ≤ fuel) :
    runTasks syncReports fuel ts s = some s := by
  induction ts generalizing fuel with
  | nil => cases fuel <;> rfl
  | cons t ts ih =>
      obtain ⟨n, rfl⟩ : ∃ n, fuel = n + 1 := ⟨fuel - 1, by simp at hf; omega⟩
      rw [runTasks_cons, h t (by simp), syncReports_self hw]
      exact ih n (fun x hx => h x (by simp [hx])) (by simpa using hf)

/-- R17: the target STOP taken and acted on, the reports built. -/
def stopReported (s : State) : State := syncReports s (stoppedAtC1 s)

theorem stopReported_state (s : State) : (stopReported s).tc.state = .unthreadedStop := by
  rw [stopReported, syncReports_tc, stoppedAtC1_state]

theorem stopReported_pgt (s : State) : (stopReported s).pgt = s.pgt := by
  rw [stopReported, syncReports_pgt, stoppedAtC1_pgt]

theorem stopReported_wanted (s : State) : (stopReported s).lku.wanted = [] := by
  rw [stopReported, syncReports_wanted]

/-- R158: of the target STOP that TC has set and of what follows from it, PGT makes nothing while no record
holds the claim. -/
theorem runTasks_stop {s : State} (fuel : Nat) (hst : s.tc.state = .windRev)
    (hwait : s.tc.lockWait = false) (hclaim : s.pgt.claim = none) :
    runTasks syncReports (fuel + 4) [.tcGoal .stop .bot] s = some (stopReported s) := by
  have hgoal : perform (.tcGoal .stop .bot) s = (stoppedAtC1 s,
      [.pgtTransport .unthreadedStop none, .tcEnds, .pgtOwnTarget .bot]) :=
    ownGoal_stop_of_windRev hst hwait
  have hfree : (stopReported s).pgt.claim = none := by rw [stopReported_pgt, hclaim]
  have hends : seeEnds (stopReported s) = (stopReported s, []) :=
    seeEnds_of_standing (by rw [stopReported_state]; rfl) (by rw [stopReported_state]; rfl)
  have hsilent : ∀ t ∈ [Task.pgtTransport .unthreadedStop none, .tcEnds, .pgtOwnTarget .bot],
      perform t (stopReported s) = (stopReported s, []) := by
    simp only [List.forall_mem_cons, perform, transportChanged_of_no_claim hfree, hends,
      ownTargetSet_of_no_claim hfree, true_and, List.not_mem_nil, false_imp_iff, implies_true]
  rw [runTasks_cons, hgoal, List.append_nil, ← stopReported]
  exact runTasks_silent (fuel + 3) _ _ (stopReported_wanted s) hsilent (by simp)

/-- R17: BOT seen in WIND_REV leads to the target STOP. -/
theorem settleTasks_of_bot {s : State} (hst : s.tc.state = .windRev)
    (hbot : s.tc.sensors.bot = true) (hwait : s.tc.lockWait = false) (hclaim : s.pgt.claim = none) :
    settleTasks syncReports (s, [.tcEnds]) = some (stopReported (syncReports s (botSeen s))) := by
  have hends : perform .tcEnds s = (botSeen s, [.tcGoal .stop .bot]) := seeEnds_of_bot hst hbot
  have htc : (syncReports s (botSeen s)).tc = s.tc := by rw [syncReports_tc, botSeen_tc]
  have hpgt : (syncReports s (botSeen s)).pgt = s.pgt := by
    rw [syncReports_pgt, botSeen]
    simp
  rw [settleTasks, taskBound, runTasks_cons, hends, List.append_nil]
  exact runTasks_stop _ (by rw [htc, hst]) (by rw [htc, hwait]) (by rw [hpgt, hclaim])

/-- R17, R62: the state left by BOT seen in WIND_REV. -/
def stoppedByBot (s : State) : State :=
  startTransmission (stopReported (syncReports s (botSeen s)))

theorem startTransmission_frame (s : State) :
    (startTransmission s).tc = s.tc ∧ (startTransmission s).mdu = s.mdu
      ∧ (startTransmission s).recordAndTuning = s.recordAndTuning := by
  obtain h | ⟨p, rest, h⟩ := startTransmission_cases s
  · rw [h]
    exact ⟨rfl, rfl, rfl⟩
  · rw [h]
    exact ⟨rfl, rfl, rfl⟩

theorem stoppedByBot_tc (s : State) :
    (stoppedByBot s).tc = (stoppedAtC1 (syncReports s (botSeen s))).tc := by
  obtain ⟨htc, -, -⟩ := startTransmission_frame (stopReported (syncReports s (botSeen s)))
  rw [stoppedByBot, htc, stopReported, syncReports_tc]

theorem stoppedByBot_state (s : State) : (stoppedByBot s).tc.state = .unthreadedStop := by
  rw [stoppedByBot_tc, stoppedAtC1_state]

theorem stoppedByBot_goalAndSensors (s : State) :
    (stoppedByBot s).goalAndSensors = (some ⟨.stop, .unthreadedStop⟩, s.tc.sensors) := by
  rw [goalAndSensors_of_tc (stoppedByBot_tc s), stoppedAtC1_goalAndSensors, syncReports_tc,
    botSeen_tc]

theorem stoppedByBot_reel_staged (s : State) : (stoppedByBot s).mdu.reel.staged = ⟨.brake, 0⟩ := by
  obtain ⟨-, hmdu, -⟩ := startTransmission_frame (stopReported (syncReports s (botSeen s)))
  rw [stoppedByBot, hmdu, stopReported, syncReports_mdu, stoppedAtC1_reel_staged]

theorem stoppedByBot_recordAndTuning (s : State) :
    (stoppedByBot s).recordAndTuning
      = (s.tau.record.map (Cassette.fixedAt 0 .exact), 0,
          s.tnu, s.dlp) := by
  obtain ⟨-, -, hrest⟩ := startTransmission_frame (stopReported (syncReports s (botSeen s)))
  rw [stoppedByBot, hrest, stopReported, syncReports_recordAndTuning, stoppedAtC1_recordAndTuning,
    syncReports_recordAndTuning, botSeen_recordAndTuning]

theorem stoppedByBot_besideDeck (s : State) : (stoppedByBot s).besideDeck = s.besideDeck := by
  rw [stoppedByBot, startTransmission_besideDeck, stopReported, syncReports_besideDeck,
    stoppedAtC1_besideDeck, syncReports_besideDeck, botSeen_besideDeck]

/-! ### BOT becomes active -/

theorem exec_sensorSettled (r : SensorReading) (s : State) :
    exec (.sensorSettled r) s = event (sensorTakes r) { s with pins := pinsWith s.pins r } := rfl

theorem complete_of_settled {before : State} {h : Handed} {u : State}
    (e : settleReporting before h = some u) : complete before h = .next (startTransmission u) := by
  simp [complete, e]

/-- R1: BOT is active, at the input and as TC holds it, and the report of it is built. -/
def botTaken (s : State) : State :=
  let s0 : State := { s with pins := { s.pins with bot := true } }
  syncReports s0
    (noted .transport s0 { s0 with tc := { s.tc with sensors := { s.tc.sensors with bot := true } } })

theorem exec_bot_of_windRev {s : State} (hsupply : s.lku.supply = .mains) (hplain : s.plain)
    (hst : s.tc.state = .windRev) (hbot : s.tc.sensors.bot = false) :
    exec (.sensorSettled (.bot true)) s = .next (stoppedByBot (botTaken s)) := by
  obtain ⟨-, hwait, hclaim⟩ := hplain
  have hsettled := settleTasks_of_bot (s := botTaken s) hst rfl hwait hclaim
  simp only [exec_sensorSettled, event, hsupply, if_true, sensorTakes, settledReading, hbot,
    SensorReading.bot.injEq, Bool.false_eq_true, if_false]
  exact complete_of_settled hsettled

/-- Settles O18: the entry to UNTHREADED_STOP keeps what the BOT fix has set, and its own demand for the reel
channel is BRAKE again. -/
theorem botStopsTheWindAndFixesZero : Obligations.BotStopsTheWindAndFixesZero := by
  unfold Obligations.BotStopsTheWindAndFixesZero
  intro s r hsupply hplain hst hbot hrecord
  have hheading := stoppedByBot_goalAndSensors (botTaken s)
  have htape := stoppedByBot_recordAndTuning (botTaken s)
  simp only [State.goalAndSensors, State.recordAndTuning, Prod.mk.injEq] at hheading htape
  obtain ⟨hgoal, hsensors⟩ := hheading
  obtain ⟨hfixed, hfgStep, -, -⟩ := htape
  have htau : (botTaken s).tau.record = some r := hrecord
  exact ⟨stoppedByBot (botTaken s), exec_bot_of_windRev hsupply hplain hst hbot,
    stoppedByBot_state _, hgoal, hsensors, stoppedByBot_reel_staged _, by rw [hfixed, htau]; rfl,
    hfgStep, (onlyDeck_iff _ _).mpr (stoppedByBot_besideDeck _)⟩

end Sys2Proof.Machine

namespace Sys2Proof.Machine

/-! ### What a taken request leaves -/

theorem sameButQueue_refl (s : State) : sameButQueue s s := rfl

theorem sameButQueue_trans {a b c : State} (hab : sameButQueue a b) (hbc : sameButQueue b c) :
    sameButQueue a c := by
  unfold sameButQueue at hab hbc ⊢
  rw [hbc] at hab
  exact hab

theorem owner_of_sameButQueue {a b : State} (h : sameButQueue a b) : a.owner = b.owner := by
  unfold sameButQueue at h
  have howner := congrArg State.owner h
  exact howner

theorem sameButQueue_startTransmission (s : State) : sameButQueue (startTransmission s) s := by
  obtain h | ⟨p, rest, h⟩ := startTransmission_cases s
  · rw [h]
    exact sameButQueue_refl s
  · rw [h]
    rfl

/-- R176: the packet whose transmission begins leaves the queue for the transmitter, and the others stay. -/
theorem holdsReply_startTransmission {r : Reply} {s : State} (h : s.holdsReply r) :
    (startTransmission s).holdsReply r := by
  unfold startTransmission
  split
  · exact h
  case h_2 p rest hqueue =>
    split
    · next hidle =>
      obtain ⟨-, htx, -⟩ := hidle
      have hmem : Packet.reply r = p ∨ Packet.reply r ∈ rest := by
        simpa [State.holdsReply, hqueue, htx] using h
      obtain hfirst | hrest := hmem
      · exact .inr (congrArg some hfirst.symm)
      · exact .inl hrest
    · exact h

/-- The reports are built before the reply joins, so the transmitter alone is left to serve. -/
theorem answered_eq (tag : Byte) (clamped : Bool) (r : Results) (s t : State) :
    answered tag clamped r s t
      = startTransmission (joinReply ⟨tag, none, clamped, r⟩ (syncReports s t)) := by
  rw [answered, publish, syncReports_self]
  exact syncReports_wanted s t

theorem sameButQueue_answered (tag : Byte) (clamped : Bool) (r : Results) (s t : State) :
    sameButQueue (answered tag clamped r s t) t := by
  rw [answered_eq]
  exact sameButQueue_trans (sameButQueue_startTransmission _) rfl

theorem holdsReply_answered (tag : Byte) (clamped : Bool) (r : Results) (s t : State) :
    (answered tag clamped r s t).holdsReply ⟨tag, none, clamped, r⟩ := by
  rw [answered_eq]
  exact holdsReply_startTransmission (.inl (by simp [joinReply]))

/-- R173: a request taken with no hand-over, and answered DONE without results. -/
theorem answerRequest_done (tag : Byte) (s t : State) :
    answerRequest tag ⟨t, [], false, fun _ => .none, fun s => (s, [])⟩ s
      = .next (answered tag false .none s t) := rfl

/-! ### Engaging the timer (R139) -/

theorem exec_timerEngage (tag : Byte) (p : List Byte) (s : State) :
    exec (.timerEngage tag p) s = serveRequest 0 answerEngage tag p s := rfl

theorem answerEngage_of_unset {s : State} (p : List Byte) (h : s.cku.state = .unset) :
    answerEngage p s = .refuse .notAllowed := if_pos h

theorem answerEngage_of_set {s : State} (p : List Byte) (h : s.cku.state ≠ .unset) :
    answerEngage p s = .take ⟨engage s, [], false, fun _ => .none, fun s => (s, [])⟩ := if_neg h

theorem engage_of_engaged {s : State} (h : s.pgt.engaged = true) : engage s = s := if_pos h

theorem engage_of_clear {s : State} (h : ¬s.pgt.engaged = true) :
    engage s = want .timer (ownerChanged { s with pgt := { s.pgt with engaged := true } }) := if_neg h

theorem engage_owner (s : State) : (engage s).owner = .timer := by
  by_cases h : s.pgt.engaged = true
  · simp [engage_of_engaged h, State.owner, h]
  · simp [engage_of_clear h, State.owner, want]

/-- R21: the pause limit does not run for an owner that is TIMER. -/
theorem ownerChanged_of_engaged {s : State} (h : s.pgt.engaged = true) :
    ownerChanged s = { s with tc := { s.tc with
      pauseTimer := if s.tc.state = .recordPause then none else s.tc.pauseTimer } } := by
  have howner : s.owner = .timer := by rw [State.owner, if_pos h]
  by_cases hpause : s.tc.state = .recordPause
  · simp [ownerChanged, hpause, howner]
  · simp [ownerChanged, hpause]

/-- R139: the flag set, with the pause limit stopped, or nothing where it is set already; the TIMER report is
asked for besides. -/
theorem sameButQueue_engage (s : State) :
    sameButQueue (engage s)
      (if s.pgt.engaged then s
        else { s with
          pgt := { s.pgt with engaged := true }
          tc := { s.tc with
            pauseTimer := if s.tc.state = .recordPause then none else s.tc.pauseTimer } }) := by
  by_cases h : s.pgt.engaged = true
  · rw [if_pos h, engage_of_engaged h]
    exact sameButQueue_refl s
  · rw [if_neg h, engage_of_clear h, ownerChanged_of_engaged rfl]
    rfl

/-- Settles O34: with the clock set, the request is answered over `engage`, which differs from the named state
in the TIMER report it asks for. -/
theorem timerEngageSetsTheFlag : Obligations.TimerEngageSetsTheFlag := by
  unfold Obligations.TimerEngageSetsTheFlag
  intro tag s hs
  rw [exec_timerEngage]
  refine ⟨fun hunset => serveRequest_refuse tag hs (answerEngage_of_unset [] hunset), fun hset => ?_⟩
  have hsame := sameButQueue_answered tag false .none s (engage s)
  have htaken := serveRequest_take tag hs (answerEngage_of_set [] hset)
  exact ⟨_, htaken.trans (answerRequest_done tag s (engage s)),
    (owner_of_sameButQueue hsame).trans (engage_owner s), holdsReply_answered tag false .none s _,
    sameButQueue_trans hsame (sameButQueue_engage s)⟩

end Sys2Proof.Machine
